-- ==== Sys2Proof/Word.lean ====
section
/-! DEFINITION. The values the block handles (`00_scope.md` section 5.1) and the bus transaction that takes the place of an
instruction word (`30_encoding.md` R60). Types only; every function over them stands in Decode.lean or under Machine/. -/

namespace Sys2Proof

/-- `u8`. -/
abbrev Byte := BitVec 8

/-- `u32`: "All register values are unsigned 32-bit" (R102; `DATA_WIDTH` of R6). -/
abbrev Word := BitVec 32

/-- A bus transaction, in the form of the two entry points R60 quotes: `read(offset, out: byte_buffer)` and
`write(offset, data: byte_buffer)`. The offset is a natural number compared at full width (R47); `len` is the length of the
buffer. A read carries the caller's buffer as it stands before the read (R86); its bytes are no part of the request. -/
inductive Txn where
  /-- `dir = RD`; `len` is the length of `out`. -/
  | read (off : Nat) (out : List Byte)
  /-- `dir = WR`; `len` is the length of `data`. -/
  | write (off : Nat) (data : List Byte)
deriving DecidableEq, Repr

/-- The registers a transaction can name (R29, R64, R87): the seven low ones and the eight identification registers. An offset
that names none of them is R87's `UNMAPPED`. -/
inductive Reg where
  | lr
  | mr
  | rtccr
  | imsc
  | ris
  | mis
  | icr
  | id (k : Fin 8)
deriving DecidableEq, Repr

end Sys2Proof
end

