-- ==== Sys2Proof/Machine/Operands.lean ====
section
/-! DEFINITION. Bytes and register values (`00_scope.md` section 5.2, `20_memory.md` R40, `30_encoding.md` R62), and the widening
of narrow values to a register's width. -/

namespace Sys2Proof.Machine

/-- `le32([b0 b1 b2 b3]) = b0 + 256*b1 + 65536*b2 + 16777216*b3` (section 5.2; R40). The same sum is taken of a list of any
length, modulo `2^32`; the decoder applies it to four bytes only (log entry 26). -/
def le32 : List Byte → Word
  | [] => 0
  | b :: bs => b.setWidth 32 + 256 * le32 bs

/-- `bytes_le(v) = [v[7:0] v[15:8] v[23:16] v[31:24]]` (section 5.2; R40). -/
def bytesLe (v : Word) : List Byte :=
  [v.extractLsb' 0 8, v.extractLsb' 8 8, v.extractLsb' 16 8, v.extractLsb' 24 8]

/-- `zext_32` of one bit, 1 for `true` (section 5.1): the value `RTCCR` reads (R30, R99) and a status value (R20). -/
def zextBit (b : Bool) : Word := if b then 1 else 0

/-- `zext_32` of an identification byte (R62, R146). -/
def zextByte (b : Byte) : Word := b.setWidth 32

/-- The enable bit of a value written to `RTCCR`: `v[0]` (R30; `EN_BIT` of R6 is 0). -/
def enableBit (v : Word) : Bool := v.getLsbD 0

end Sys2Proof.Machine

namespace Sys2Proof

/-- The length of a transaction's buffer in bytes, `len` of R60. -/
def Txn.len : Txn → Nat
  | .read _ out => out.length
  | .write _ data => data.length

/-- The byte offset of a transaction, `off` of R60. -/
def Txn.off : Txn → Nat
  | .read off _ => off
  | .write off _ => off

/-- The caller's buffer: what a read may fill (R86), or the data of a write (R60). -/
def Txn.buffer : Txn → List Byte
  | .read _ out => out
  | .write _ data => data

/-- Whether `dir = WR` (R60). -/
def Txn.isWrite : Txn → Bool
  | .read _ _ => false
  | .write _ _ => true

end Sys2Proof
end

