-- ==== Sys2Proof/Config.lean ====
section
/-! DEFINITION. The parameters the spec leaves OPEN (`00_scope.md` R6; `92_eei_decisions.md`, the closing table): constants with
no body, so that whatever is proved holds for every value of them. The parameters with a value (the offsets, the width of an
access) stand in Decode.lean, the unit of the clock in R8's reading of `now`. -/

namespace Sys2Proof.Config

/-- `Cfg.ID_BYTES` (R6, R23): the eight identification bytes. OPEN (D4); log entry 7. -/
opaque idByte : Fin 8 → Byte

/-- `Cfg.RTCCR_EN_RESET` (R6, R36): the enable bit after reset, "per implementation default". OPEN (D10); log entry 6. -/
opaque rtccrEnReset : Bool

/-- `Cfg.MATCH` (R6, R118): whether the counter (first argument) meets the match register (second). OPEN (D6); log entry 8. -/
opaque matchCond : Word → Word → Bool

/-- `BASE` after reset (R36): "unspecified: a draw, any integer, fixed for the run". A free value (D11); log entry 5. -/
opaque resetBase : Int

/-- DESIGN CHOICE (the spec's own default, D6; log entry 8): equality. No meaning uses it; tests marked [M] in
`95_test_vectors.md` give it to the operations that take the match condition as an argument. -/
def defaultMatch (counter mr : Word) : Bool := counter == mr

/-- PRESUMED (the spec's default from general knowledge, D4 and G2; log entry 7): identification bytes for tests marked [I].
No meaning uses them. -/
def defaultIdBytes : Vector Byte 8 := #v[0x31, 0x10, 0x14, 0x00, 0x0D, 0xF0, 0x05, 0xB1]

end Sys2Proof.Config
end

