-- ==== Sys2Proof/Machine/State.lean ====
section
/-! DEFINITION. The state of the block (`10_state.md` R13), the model's own fields beside it (the bus master's pending
transactions, the clock input, the caller's buffer, the result), the ways a step could stop (none), and reset (R36). -/

namespace Sys2Proof.Machine

/-- One transaction as the environment delivers it: the clock input `now` travels with it and is no field of it (R8, R61). -/
structure Delivery where
  /-- The wall clock in whole seconds, any integer (R8). -/
  now : Int
  txn : Txn
deriving DecidableEq, Repr

/-- The result of a read transaction (`00_scope.md` section 5.3, R86). -/
inductive ReadResult where
  /-- `Data([b0 b1 b2 b3])`: the bytes the caller's buffer becomes. -/
  | data (bytes : List Byte)
  /-- `NoData`: the block drives nothing and the buffer keeps what it held. -/
  | noData
deriving DecidableEq, Repr

/-- The two kinds of Invalid Access (R150). -/
inductive Kind where
  | read
  | write
deriving DecidableEq, Repr

/-- The causes of an Invalid Access (R151). Labels for the reader: the block records the kind only (R152). -/
inductive Cause where
  /-- The length is not 4. -/
  | width
  /-- The offset is misaligned, unmapped or outside the window. -/
  | offset
  /-- A write to `RIS`, `MIS` or an identification register. -/
  | readOnly
  /-- A read of `ICR`. -/
  | writeOnly
deriving DecidableEq, Repr

/-- The reasons a step stops with a fault: none. "No transaction faults, hangs, or is refused by the block" (R85), and
`93_implementation_defined.md` treats no behaviour as `fault` or `stuck`. -/
inductive Fault where
deriving DecidableEq, Repr

/-- The reasons a step is refused. -/
inductive Refusal where
  /-- An operation without a meaning in this model. Raised by nobody: every arm of `exec` has its meaning. Safe. -/
  | notModelled (mnemonic : String)
deriving DecidableEq, Repr

/-- The state: the ten components of R13, then the model's own fields. -/
structure State where
  /-- `LRV` (R14): the value last written to `LR`. -/
  lrv : Word
  /-- `BASE` (R15): the clock reading, in seconds, at the last write of `LR`. -/
  base : Int
  /-- `MR` (R17): the match register. -/
  mr : Word
  /-- `EN` (R18): the sticky enable bit of `RTCCR`. -/
  en : Bool
  /-- `IMSC` (R19): the interrupt mask register, all 32 bits. -/
  imsc : Word
  /-- `IRQ` (R24): the level of the interrupt line. -/
  irq : Bool
  /-- `ERR` (R25): `error_count`. -/
  err : Nat
  /-- `MISS_RD` (R25): `missed_read_count`. -/
  missRd : Nat
  /-- `MISS_WR` (R25): `missed_write_count`. -/
  missWr : Nat
  /-- `ID[0..7]` (R23): the identification bytes. -/
  idReg : Vector Byte 8
  /-- MODEL'S OWN (log entry 1): the clock input of the step under way (R8). -/
  now : Int
  /-- MODEL'S OWN (log entry 3): the caller's buffer of the latest transaction (R60, R86). -/
  buf : List Byte
  /-- MODEL'S OWN (log entry 3): the latest transaction's result; a write has none (section 5.3). -/
  result : Option ReadResult
  /-- MODEL'S OWN (log entry 1): the transactions still to be served, in the order the monitor delivers them (R49). -/
  inbox : List Delivery
deriving DecidableEq, Repr

/-- The state right after construction (R36, R170, R171). DESIGN CHOICE (log entry 4): the model's own four fields, to which the
spec gives no value. -/
def State.reset : State where
  lrv := 0
  base := Config.resetBase
  mr := 0
  en := Config.rtccrEnReset
  imsc := 0
  irq := false
  err := 0
  missRd := 0
  missWr := 0
  idReg := #v[Config.idByte 0, Config.idByte 1, Config.idByte 2, Config.idByte 3,
    Config.idByte 4, Config.idByte 5, Config.idByte 6, Config.idByte 7]
  now := 0
  buf := []
  result := none
  inbox := []

end Sys2Proof.Machine
end

