-- ==== Sys2Proof/Machine/Flags.lean ====
section
/-! DEFINITION. The derived values: the counter (`10_state.md` R16), the raw and the masked interrupt status (R20, R21), and the
level a write of `IMSC` gives the line (`42_interrupt_regs.md` R111). Nothing here is stored or latched (log entry 10). The
match condition is an argument, so that a fact can be stated for every `Cfg.MATCH` (R118). -/

namespace Sys2Proof.Machine

/-- `COUNTER(now) = S.LRV +32 (now - S.BASE)` (R16): computed over the integers, reduced modulo `2^32` (R102, D19). Total for a
clock that went backwards (D5). -/
def State.counter (s : State) (now : Int) : Word := s.lrv + BitVec.ofInt 32 (now - s.base)

/-- Whether the match condition holds at `now` (R118). -/
def State.matched (m : Word → Word → Bool) (s : State) (now : Int) : Bool := m (s.counter now) s.mr

/-- `RISV(now)` (R20). -/
def State.risv (m : Word → Word → Bool) (s : State) (now : Int) : Word := zextBit (s.matched m now)

/-- `MISV(now) = RISV(now) & S.IMSC` (R21). -/
def State.misv (m : Word → Word → Bool) (s : State) (now : Int) : Word := s.risv m now &&& s.imsc

/-- `(RISV(now) & v) != 0`: the line after a write of `v` to `IMSC` (R111). -/
def State.lineLevel (m : Word → Word → Bool) (s : State) (v : Word) (now : Int) : Bool := s.risv m now &&& v != 0

end Sys2Proof.Machine
end

