-- ==== Sys2Proof/Machine/Ops.lean ====
section
/-! DEFINITION. The named operations over the state. The Event Sink (`40_adapter.md` R84) and the Invalid Access, which is all
this block has in the place of an exception (`60_exceptions.md` R150 to R157: nothing is saved, no mode changes, control goes
nowhere, nothing returns); the delivery of read data (R86); and one operation per register a write changes. -/

namespace Sys2Proof.Machine

/-! ## The Event Sink and the Invalid Access -/

/-- `invalid_read()` of R84. -/
def State.countRead (s : State) : State := { s with missRd := s.missRd + 1, err := s.err + 1 }

/-- `invalid_write()` of R84. -/
def State.countWrite (s : State) : State := { s with missWr := s.missWr + 1, err := s.err + 1 }

/-- The result `NoData` (R86): no byte of the caller's buffer is written. -/
def State.noData (s : State) : State := { s with result := some .noData }

/-- The end of a write transaction, which has no result (`00_scope.md` section 5.3). -/
def State.finishWrite (s : State) : State := { s with result := none }

/-- `raise InvalidAccess(kind, cause)` (R84, R152, R155): the sink's operation of that kind, `NoData` for a read, and nothing
else. The cause is not recorded (R152; log entry 19). -/
def State.raiseInvalid (kind : Kind) (_cause : Cause) (s : State) : State :=
  match kind with
  | .read => s.countRead.noData
  | .write => s.countWrite.finishWrite

/-! ## Delivering read data -/

/-- `result Data(bytes_le(v))` (R86): the caller's buffer becomes `bytes_le(v)`. -/
def State.driveData (v : Word) (s : State) : State :=
  { s with buf := bytesLe v, result := some (.data (bytesLe v)) }

/-! ## The writes of the register file -/

/-- `S.LRV <- v ; S.BASE <- now` (R96). -/
def State.putLr (v : Word) (now : Int) (s : State) : State := { s with lrv := v, base := now }

/-- `S.MR <- v` (R98). -/
def State.putMr (v : Word) (s : State) : State := { s with mr := v }

/-- `S.EN <- S.EN | b` (R100): sticky. -/
def State.orEn (b : Bool) (s : State) : State := { s with en := s.en || b }

/-- `S.IMSC <- v` (R111). -/
def State.putImsc (v : Word) (s : State) : State := { s with imsc := v }

/-- The line takes a level (R24). -/
def State.putIrq (b : Bool) (s : State) : State := { s with irq := b }

/-- A write of `v` to `IMSC` at `now` under the match condition `m` (R111): the mask is stored and the line recomputed, from the
state before the step (R88). -/
def State.writeImsc (m : Word → Word → Bool) (v : Word) (now : Int) (s : State) : State :=
  ((s.putImsc v).putIrq (s.lineLevel m v now)).finishWrite

/-! ## Accepting a transaction -/

/-- The block accepts a delivery: it leaves the pending ones, its clock reading becomes this step's `now` (R8) and its buffer
the caller's buffer (R86). -/
def State.accept (d : Delivery) (rest : List Delivery) (s : State) : State :=
  { s with inbox := rest, now := d.now, buf := d.txn.buffer }

/-- The bus master issues one more transaction, to be served before those already pending. -/
def State.issue (d : Delivery) (s : State) : State := { s with inbox := d :: s.inbox }

end Sys2Proof.Machine
end

