-- ==== Sys2Proof/Machine/Adapter.lean ====
section
/-! DEFINITION. The operations that name no register (`40_adapter.md` R80 to R83): each is an Invalid Access and completes (R85). Their
operands are used by the decoder only. -/

namespace Sys2Proof.Machine

open Host (Outcome)

/-- `RD.BADLEN` (R80): the register file is not consulted. -/
def execRdBadlen (_off _len : Nat) (s : State) : Outcome State Fault Refusal :=
  .next (s.raiseInvalid .read .width)

/-- `WR.BADLEN` (R81). -/
def execWrBadlen (_off : Nat) (_data : List Byte) (s : State) : Outcome State Fault Refusal :=
  .next (s.raiseInvalid .write .width)

/-- `RD.UNMAPPED` (R82). -/
def execRdUnmapped (_off : Nat) (s : State) : Outcome State Fault Refusal :=
  .next (s.raiseInvalid .read .offset)

/-- `WR.UNMAPPED` (R83). -/
def execWrUnmapped (_off : Nat) (_v : Word) (s : State) : Outcome State Fault Refusal :=
  .next (s.raiseInvalid .write .offset)

end Sys2Proof.Machine
end

