-- ==== Sys2Proof/Machine/Counter.lean ====
section
/-! DEFINITION. The counter registers `LR`, `MR` and `RTCCR` (`41_counter_regs.md` R95 to R100). The enable bit gates nothing (R101). -/

namespace Sys2Proof.Machine

open Host (Outcome)

/-- `RD.LR` (R95): the running counter, not `LRV`. -/
def execRdLr (s : State) : Outcome State Fault Refusal :=
  .next (s.driveData (s.counter s.now))

/-- `WR.LR` (R96): the line does not move (D13). -/
def execWrLr (v : Word) (s : State) : Outcome State Fault Refusal :=
  .next ((s.putLr v s.now).finishWrite)

/-- `RD.MR` (R97). -/
def execRdMr (s : State) : Outcome State Fault Refusal :=
  .next (s.driveData s.mr)

/-- `WR.MR` (R98): the line does not move (C4). -/
def execWrMr (v : Word) (s : State) : Outcome State Fault Refusal :=
  .next ((s.putMr v).finishWrite)

/-- `RD.RTCCR` (R99). -/
def execRdRtccr (s : State) : Outcome State Fault Refusal :=
  .next (s.driveData (zextBit s.en))

/-- `WR.RTCCR` (R100): bit 0 only, and only from 0 to 1. -/
def execWrRtccr (v : Word) (s : State) : Outcome State Fault Refusal :=
  .next ((s.orEn (enableBit v)).finishWrite)

end Sys2Proof.Machine
end

