-- ==== Sys2Proof/Machine/Ident.lean ====
section
/-! DEFINITION. The identification registers (`43_id_regs.md` R130 to R145). -/

namespace Sys2Proof.Machine

open Host (Outcome)

/-- `RD.ID0` (R130). -/
def execRdId0 (s : State) : Outcome State Fault Refusal :=
  .next (s.driveData (zextByte s.idReg[0]))

/-- `RD.ID1` (R131). -/
def execRdId1 (s : State) : Outcome State Fault Refusal :=
  .next (s.driveData (zextByte s.idReg[1]))

/-- `RD.ID2` (R132). -/
def execRdId2 (s : State) : Outcome State Fault Refusal :=
  .next (s.driveData (zextByte s.idReg[2]))

/-- `RD.ID3` (R133). -/
def execRdId3 (s : State) : Outcome State Fault Refusal :=
  .next (s.driveData (zextByte s.idReg[3]))

/-- `RD.ID4` (R134). -/
def execRdId4 (s : State) : Outcome State Fault Refusal :=
  .next (s.driveData (zextByte s.idReg[4]))

/-- `RD.ID5` (R135). -/
def execRdId5 (s : State) : Outcome State Fault Refusal :=
  .next (s.driveData (zextByte s.idReg[5]))

/-- `RD.ID6` (R136). -/
def execRdId6 (s : State) : Outcome State Fault Refusal :=
  .next (s.driveData (zextByte s.idReg[6]))

/-- `RD.ID7` (R137). -/
def execRdId7 (s : State) : Outcome State Fault Refusal :=
  .next (s.driveData (zextByte s.idReg[7]))

/-- `WR.ID0` (R138). -/
def execWrId0 (_v : Word) (s : State) : Outcome State Fault Refusal :=
  .next (s.raiseInvalid .write .readOnly)

/-- `WR.ID1` (R139). -/
def execWrId1 (_v : Word) (s : State) : Outcome State Fault Refusal :=
  .next (s.raiseInvalid .write .readOnly)

/-- `WR.ID2` (R140). -/
def execWrId2 (_v : Word) (s : State) : Outcome State Fault Refusal :=
  .next (s.raiseInvalid .write .readOnly)

/-- `WR.ID3` (R141). -/
def execWrId3 (_v : Word) (s : State) : Outcome State Fault Refusal :=
  .next (s.raiseInvalid .write .readOnly)

/-- `WR.ID4` (R142). -/
def execWrId4 (_v : Word) (s : State) : Outcome State Fault Refusal :=
  .next (s.raiseInvalid .write .readOnly)

/-- `WR.ID5` (R143). -/
def execWrId5 (_v : Word) (s : State) : Outcome State Fault Refusal :=
  .next (s.raiseInvalid .write .readOnly)

/-- `WR.ID6` (R144). -/
def execWrId6 (_v : Word) (s : State) : Outcome State Fault Refusal :=
  .next (s.raiseInvalid .write .readOnly)

/-- `WR.ID7` (R145). -/
def execWrId7 (_v : Word) (s : State) : Outcome State Fault Refusal :=
  .next (s.raiseInvalid .write .readOnly)

end Sys2Proof.Machine
end

