-- ==== Sys2Proof/Machine/Interrupt.lean ====
section
/-! DEFINITION. The interrupt registers `IMSC`, `RIS`, `MIS` and `ICR` (`42_interrupt_regs.md` R110 to R117). The line changes in `WR.IMSC`
and `WR.ICR` only (R119; log entry 11). The match condition is `Cfg.MATCH` (R118; log entry 8). -/

namespace Sys2Proof.Machine

open Host (Outcome)

/-- `RD.IMSC` (R110). -/
def execRdImsc (s : State) : Outcome State Fault Refusal :=
  .next (s.driveData s.imsc)

/-- `WR.IMSC` (R111). -/
def execWrImsc (v : Word) (s : State) : Outcome State Fault Refusal :=
  .next (s.writeImsc Config.matchCond v s.now)

/-- `RD.RIS` (R112): evaluates the match condition and stores nothing. -/
def execRdRis (s : State) : Outcome State Fault Refusal :=
  .next (s.driveData (s.risv Config.matchCond s.now))

/-- `WR.RIS` (R113). -/
def execWrRis (_v : Word) (s : State) : Outcome State Fault Refusal :=
  .next (s.raiseInvalid .write .readOnly)

/-- `RD.MIS` (R114): evaluates the match condition and stores nothing. -/
def execRdMis (s : State) : Outcome State Fault Refusal :=
  .next (s.driveData (s.misv Config.matchCond s.now))

/-- `WR.MIS` (R115). -/
def execWrMis (_v : Word) (s : State) : Outcome State Fault Refusal :=
  .next (s.raiseInvalid .write .readOnly)

/-- `RD.ICR` (R116). -/
def execRdIcr (s : State) : Outcome State Fault Refusal :=
  .next (s.raiseInvalid .read .writeOnly)

/-- `WR.ICR` (R117): any value deasserts the line; `RIS` and `MIS` go on reading the match condition (R178). -/
def execWrIcr (_v : Word) (s : State) : Outcome State Fault Refusal :=
  .next ((s.putIrq false).finishWrite)

end Sys2Proof.Machine
end

