-- ==== Sys2Proof/Syntax.lean ====
section
/-! DEFINITION. The 34 operations a transaction decodes to (`30_encoding.md` R65), one constructor per row of
spec/opcode_table.json, in the table's order. Operands are what the operation's rule lists under "Operands"; data that a rule
says is ignored is kept, so that encoding loses nothing (log entry 20). -/

namespace Sys2Proof

/-- A decoded operation. -/
inductive Instr where
  /-- `RD.BADLEN` (R80): a read of `len` bytes, `len` not 4. -/
  | rdBadlen (off len : Nat)
  /-- `WR.BADLEN` (R81): a write of `data`, not 4 bytes long. -/
  | wrBadlen (off : Nat) (data : List Byte)
  /-- `RD.LR` (R95). -/
  | rdLr
  /-- `WR.LR` (R96). -/
  | wrLr (v : Word)
  /-- `RD.MR` (R97). -/
  | rdMr
  /-- `WR.MR` (R98). -/
  | wrMr (v : Word)
  /-- `RD.RTCCR` (R99). -/
  | rdRtccr
  /-- `WR.RTCCR` (R100). -/
  | wrRtccr (v : Word)
  /-- `RD.IMSC` (R110). -/
  | rdImsc
  /-- `WR.IMSC` (R111). -/
  | wrImsc (v : Word)
  /-- `RD.RIS` (R112). -/
  | rdRis
  /-- `WR.RIS` (R113: read-only, the data is ignored). -/
  | wrRis (v : Word)
  /-- `RD.MIS` (R114). -/
  | rdMis
  /-- `WR.MIS` (R115: read-only, the data is ignored). -/
  | wrMis (v : Word)
  /-- `RD.ICR` (R116: write-only). -/
  | rdIcr
  /-- `WR.ICR` (R117: the value is ignored). -/
  | wrIcr (v : Word)
  /-- `RD.ID0` (R130). -/
  | rdId0
  /-- `RD.ID1` (R131). -/
  | rdId1
  /-- `RD.ID2` (R132). -/
  | rdId2
  /-- `RD.ID3` (R133). -/
  | rdId3
  /-- `RD.ID4` (R134). -/
  | rdId4
  /-- `RD.ID5` (R135). -/
  | rdId5
  /-- `RD.ID6` (R136). -/
  | rdId6
  /-- `RD.ID7` (R137). -/
  | rdId7
  /-- `WR.ID0` (R138): read-only, the data is ignored. -/
  | wrId0 (v : Word)
  /-- `WR.ID1` (R139): read-only, the data is ignored. -/
  | wrId1 (v : Word)
  /-- `WR.ID2` (R140): read-only, the data is ignored. -/
  | wrId2 (v : Word)
  /-- `WR.ID3` (R141): read-only, the data is ignored. -/
  | wrId3 (v : Word)
  /-- `WR.ID4` (R142): read-only, the data is ignored. -/
  | wrId4 (v : Word)
  /-- `WR.ID5` (R143): read-only, the data is ignored. -/
  | wrId5 (v : Word)
  /-- `WR.ID6` (R144): read-only, the data is ignored. -/
  | wrId6 (v : Word)
  /-- `WR.ID7` (R145): read-only, the data is ignored. -/
  | wrId7 (v : Word)
  /-- `RD.UNMAPPED` (R82): a 4-byte read at an offset that names no register. -/
  | rdUnmapped (off : Nat)
  /-- `WR.UNMAPPED` (R83): a 4-byte write at an offset that names no register. -/
  | wrUnmapped (off : Nat) (v : Word)
deriving DecidableEq, Repr

end Sys2Proof
end

