-- ==== Sys2Proof/Machine/Dispatch.lean ====
section
/-! DEFINITION. One arm per operation of spec/opcode_table.json, each one call of that operation's meaning. -/

namespace Sys2Proof.Machine

def exec (i : Instr) (s : State) : Host.Outcome State Fault Refusal :=
  match i with
  | .rdBadlen off len => Sys2Proof.Machine.execRdBadlen off len s
  | .wrBadlen off data => Sys2Proof.Machine.execWrBadlen off data s
  | .rdLr => Sys2Proof.Machine.execRdLr s
  | .wrLr v => Sys2Proof.Machine.execWrLr v s
  | .rdMr => Sys2Proof.Machine.execRdMr s
  | .wrMr v => Sys2Proof.Machine.execWrMr v s
  | .rdRtccr => Sys2Proof.Machine.execRdRtccr s
  | .wrRtccr v => Sys2Proof.Machine.execWrRtccr v s
  | .rdImsc => Sys2Proof.Machine.execRdImsc s
  | .wrImsc v => Sys2Proof.Machine.execWrImsc v s
  | .rdRis => Sys2Proof.Machine.execRdRis s
  | .wrRis v => Sys2Proof.Machine.execWrRis v s
  | .rdMis => Sys2Proof.Machine.execRdMis s
  | .wrMis v => Sys2Proof.Machine.execWrMis v s
  | .rdIcr => Sys2Proof.Machine.execRdIcr s
  | .wrIcr v => Sys2Proof.Machine.execWrIcr v s
  | .rdId0 => Sys2Proof.Machine.execRdId0 s
  | .rdId1 => Sys2Proof.Machine.execRdId1 s
  | .rdId2 => Sys2Proof.Machine.execRdId2 s
  | .rdId3 => Sys2Proof.Machine.execRdId3 s
  | .rdId4 => Sys2Proof.Machine.execRdId4 s
  | .rdId5 => Sys2Proof.Machine.execRdId5 s
  | .rdId6 => Sys2Proof.Machine.execRdId6 s
  | .rdId7 => Sys2Proof.Machine.execRdId7 s
  | .wrId0 v => Sys2Proof.Machine.execWrId0 v s
  | .wrId1 v => Sys2Proof.Machine.execWrId1 v s
  | .wrId2 v => Sys2Proof.Machine.execWrId2 v s
  | .wrId3 v => Sys2Proof.Machine.execWrId3 v s
  | .wrId4 v => Sys2Proof.Machine.execWrId4 v s
  | .wrId5 v => Sys2Proof.Machine.execWrId5 v s
  | .wrId6 v => Sys2Proof.Machine.execWrId6 v s
  | .wrId7 v => Sys2Proof.Machine.execWrId7 v s
  | .rdUnmapped off => Sys2Proof.Machine.execRdUnmapped off s
  | .wrUnmapped off v => Sys2Proof.Machine.execWrUnmapped off v s

end Sys2Proof.Machine
end

