-- ==== Sys2Proof/Machine/AddressMap.lean ====
section
/-! DEFINITION. The window (`00_scope.md` R6, `20_memory.md` R46) and the map from offsets to registers (`30_encoding.md` R64).
The numbers are the document's own and are normative (D25), which is not ARM's map (G1, R185; log entry 12). -/

namespace Sys2Proof

/-- `ACCESS_LEN` (R6, R41): the only accepted width, in bytes. -/
def accessLen : Nat := 4

/-- `WINDOW_SIZE` (R6, R46). -/
def windowSize : Nat := 0x1000

/-- `ID_BASE` (R6, R64). -/
def idBase : Nat := 0xFE0

/-- The offset of each register: `OFF_LR` to `OFF_ICR` of R6, and `0xFE0 + 4k` for `IDk` (R64). -/
def regOffset : Reg → Nat
  | .lr => 0x00
  | .mr => 0x04
  | .rtccr => 0x08
  | .imsc => 0x0C
  | .ris => 0x10
  | .mis => 0x14
  | .icr => 0x18
  | .id k => idBase + 4 * k.val

/-- The fifteen registers (R29). -/
def allRegs : List Reg :=
  [.lr, .mr, .rtccr, .imsc, .ris, .mis, .icr,
    .id 0, .id 1, .id 2, .id 3, .id 4, .id 5, .id 6, .id 7]

/-- The register an offset names, `none` for R87's `UNMAPPED` (R63 step 2, R64): a misaligned offset names none (R42), and the
offset is compared at its full width (R47). -/
def lookup (off : Nat) : Option Reg :=
  if off % 4 ≠ 0 then none else allRegs.find? (fun r => regOffset r == off)

end Sys2Proof
end

