-- ==== Sys2Proof/Decode.lean ====
section
/-! DEFINITION. Decoding a transaction into an operation, and encoding an operation as the transaction that selects it
(`30_encoding.md` R60 to R66). A transaction decodes to exactly one operation (R65), so `decode` rejects nothing: what a table
word can fail to be is a key, and `txnOfKey` rejects that. The offsets stand in Machine/AddressMap.lean. -/

namespace Sys2Proof

/-! ## The opcode-table word -/

/-- The 13-bit key of a transaction (R60): `key[12]` the direction, `key[11:0]` the offset, defined only for 4 bytes inside the
window. -/
def keyOf (t : Txn) : Option Nat :=
  if t.len = accessLen ∧ t.off < windowSize then some ((if t.isWrite then windowSize else 0) + t.off) else none

/-- The 4-byte transaction a key stands for, its buffer or data all zero; a number of more than 13 bits is no key and is
rejected. -/
def txnOfKey (key : Nat) : Option Txn :=
  if key < windowSize then some (.read key [0, 0, 0, 0])
  else if key < 2 * windowSize then some (.write (key - windowSize) [0, 0, 0, 0])
  else none

/-- The transaction an opcode-table word stands for (R66; log entry 17). A word of at least 13 bits is a key. A shorter word
belongs to a row of format `MMIOx`, which has no key: with every field zero (direction `RD`, offset 0, length 0) it is a
wrong-width read. -/
def txnOfTableWord (nbits w : Nat) : Option Txn :=
  if nbits < 13 then some (.read 0 []) else txnOfKey w

/-! ## Decoding -/

/-- A 4-byte read of the register an offset names, or of none (R63 steps 2 and 3, R65). -/
def decodeRead (off : Nat) : Option Reg → Instr
  | none => .rdUnmapped off
  | some .lr => .rdLr
  | some .mr => .rdMr
  | some .rtccr => .rdRtccr
  | some .imsc => .rdImsc
  | some .ris => .rdRis
  | some .mis => .rdMis
  | some .icr => .rdIcr
  | some (.id 0) => .rdId0
  | some (.id 1) => .rdId1
  | some (.id 2) => .rdId2
  | some (.id 3) => .rdId3
  | some (.id 4) => .rdId4
  | some (.id 5) => .rdId5
  | some (.id 6) => .rdId6
  | some (.id 7) => .rdId7

/-- A 4-byte write of `v` to the register an offset names, or to none (R63 steps 2 and 3, R65). -/
def decodeWrite (off : Nat) (v : Word) : Option Reg → Instr
  | none => .wrUnmapped off v
  | some .lr => .wrLr v
  | some .mr => .wrMr v
  | some .rtccr => .wrRtccr v
  | some .imsc => .wrImsc v
  | some .ris => .wrRis v
  | some .mis => .wrMis v
  | some .icr => .wrIcr v
  | some (.id 0) => .wrId0 v
  | some (.id 1) => .wrId1 v
  | some (.id 2) => .wrId2 v
  | some (.id 3) => .wrId3 v
  | some (.id 4) => .wrId4 v
  | some (.id 5) => .wrId5 v
  | some (.id 6) => .wrId6 v
  | some (.id 7) => .wrId7 v

/-- Decode a transaction (R63): the width first, then the offset, then the direction's operation. Total. -/
def decode : Txn → Instr
  | .read off out =>
    if out.length ≠ accessLen then .rdBadlen off out.length else decodeRead off (lookup off)
  | .write off data =>
    if data.length ≠ accessLen then .wrBadlen off data else decodeWrite off (Machine.le32 data) (lookup off)

/-- The operation the decoder reads from an opcode-table word of `nbits` bits (R66). -/
def decodeTableWord (nbits w : Nat) : Option Instr :=
  (txnOfTableWord nbits w).map decode

/-! ## Encoding -/

/-- The 4-byte read at a register's offset; its buffer holds zeros. -/
def readOf (r : Reg) : Txn := .read (regOffset r) [0, 0, 0, 0]

/-- The 4-byte write of `v` at a register's offset. -/
def writeOf (r : Reg) (v : Word) : Txn := .write (regOffset r) (Machine.bytesLe v)

/-- The transaction that selects an operation, written from R65's map. A read's buffer is filled with zeros: its bytes are no
part of the request (R60). -/
def encode : Instr → Txn
  | .rdBadlen off len => .read off (List.replicate len 0)
  | .wrBadlen off data => .write off data
  | .rdLr => readOf .lr
  | .wrLr v => writeOf .lr v
  | .rdMr => readOf .mr
  | .wrMr v => writeOf .mr v
  | .rdRtccr => readOf .rtccr
  | .wrRtccr v => writeOf .rtccr v
  | .rdImsc => readOf .imsc
  | .wrImsc v => writeOf .imsc v
  | .rdRis => readOf .ris
  | .wrRis v => writeOf .ris v
  | .rdMis => readOf .mis
  | .wrMis v => writeOf .mis v
  | .rdIcr => readOf .icr
  | .wrIcr v => writeOf .icr v
  | .rdId0 => readOf (.id 0)
  | .rdId1 => readOf (.id 1)
  | .rdId2 => readOf (.id 2)
  | .rdId3 => readOf (.id 3)
  | .rdId4 => readOf (.id 4)
  | .rdId5 => readOf (.id 5)
  | .rdId6 => readOf (.id 6)
  | .rdId7 => readOf (.id 7)
  | .wrId0 v => writeOf (.id 0) v
  | .wrId1 v => writeOf (.id 1) v
  | .wrId2 v => writeOf (.id 2) v
  | .wrId3 v => writeOf (.id 3) v
  | .wrId4 v => writeOf (.id 4) v
  | .wrId5 v => writeOf (.id 5) v
  | .wrId6 v => writeOf (.id 6) v
  | .wrId7 v => writeOf (.id 7) v
  | .rdUnmapped off => .read off [0, 0, 0, 0]
  | .wrUnmapped off v => .write off (Machine.bytesLe v)

/-- The 13-bit key of an operation (R60; R65's column `key` on the register rows), `none` for a wrong width or an offset outside
the window. -/
def Instr.key (i : Instr) : Option Nat := keyOf (encode i)

end Sys2Proof
end

