-- ==== Sys2Proof/Machine/Fetch.lean ====
section
/-! DEFINITION. Where the next operation comes from: the block has no program counter (`10_state.md` R27), the order of its steps
is the order in which the bus master's transactions arrive (R49). -/

namespace Sys2Proof.Machine

/-- The next operation and the state it runs in, or `none` when no transaction is pending. -/
def State.fetch (s : State) : Option (Instr × State) :=
  match s.inbox with
  | [] => none
  | d :: rest => some (decode d.txn, s.accept d rest)

/-- The transaction of an opcode-table word becomes the next one, at the clock reading the state already holds; a word that is
no key leaves the state as it is (log entry 17). -/
def State.issueTableWord (nbits w : Nat) (s : State) : State :=
  match txnOfTableWord nbits w with
  | none => s
  | some t => s.issue ⟨s.now, t⟩

end Sys2Proof.Machine
end

