-- ==== Sys2Proof/Machine/Step.lean ====
section
/-! DEFINITION. One step: one transaction, from acceptance to completion (`00_scope.md` R7, `20_memory.md` R43). -/

namespace Sys2Proof.Machine

/-- Serve the next pending transaction (R7, R88). DESIGN CHOICE (log entry 2): with none pending the block takes no step (R7)
and the state stays as it is. -/
def step (s : State) : Host.Outcome State Fault Refusal :=
  match s.fetch with
  | none => .next s
  | some (i, t) => exec i t

/-- The state whose next step runs the operation of an opcode-table word: the bus master issues its transaction first. -/
def State.withFetchWord (s : State) (nbits w : Nat) : State := s.issueTableWord nbits w

end Sys2Proof.Machine
end

