-- ==== Sys2Proof/Machine/Causes.lean ====
section
/-! DEFINITION. Which operations are Invalid Accesses, and why (`30_encoding.md` R65 column "Valid", `60_exceptions.md` R151). The
block records the kind and not the cause (R152), so the cause is a function of the operation and no part of the state (log
entry 19). -/

namespace Sys2Proof

/-- Whether the operation is a write, `dir = WR` (R65). -/
def Instr.isWrite : Instr → Bool
  | .rdBadlen _ _ => false
  | .wrBadlen _ _ => true
  | .rdLr => false
  | .wrLr _ => true
  | .rdMr => false
  | .wrMr _ => true
  | .rdRtccr => false
  | .wrRtccr _ => true
  | .rdImsc => false
  | .wrImsc _ => true
  | .rdRis => false
  | .wrRis _ => true
  | .rdMis => false
  | .wrMis _ => true
  | .rdIcr => false
  | .wrIcr _ => true
  | .rdId0 => false
  | .rdId1 => false
  | .rdId2 => false
  | .rdId3 => false
  | .rdId4 => false
  | .rdId5 => false
  | .rdId6 => false
  | .rdId7 => false
  | .wrId0 _ => true
  | .wrId1 _ => true
  | .wrId2 _ => true
  | .wrId3 _ => true
  | .wrId4 _ => true
  | .wrId5 _ => true
  | .wrId6 _ => true
  | .wrId7 _ => true
  | .rdUnmapped _ => false
  | .wrUnmapped _ _ => true

/-- The cause with which the operation raises an Invalid Access, `none` for the nineteen valid operations (R65, R151). -/
def Instr.cause : Instr → Option Machine.Cause
  | .rdBadlen _ _ => some .width
  | .wrBadlen _ _ => some .width
  | .rdLr => none
  | .wrLr _ => none
  | .rdMr => none
  | .wrMr _ => none
  | .rdRtccr => none
  | .wrRtccr _ => none
  | .rdImsc => none
  | .wrImsc _ => none
  | .rdRis => none
  | .wrRis _ => some .readOnly
  | .rdMis => none
  | .wrMis _ => some .readOnly
  | .rdIcr => some .writeOnly
  | .wrIcr _ => none
  | .rdId0 => none
  | .rdId1 => none
  | .rdId2 => none
  | .rdId3 => none
  | .rdId4 => none
  | .rdId5 => none
  | .rdId6 => none
  | .rdId7 => none
  | .wrId0 _ => some .readOnly
  | .wrId1 _ => some .readOnly
  | .wrId2 _ => some .readOnly
  | .wrId3 _ => some .readOnly
  | .wrId4 _ => some .readOnly
  | .wrId5 _ => some .readOnly
  | .wrId6 _ => some .readOnly
  | .wrId7 _ => some .readOnly
  | .rdUnmapped _ => some .offset
  | .wrUnmapped _ _ => some .offset

/-- The operation is not an Invalid Access (R65). -/
def Instr.valid (i : Instr) : Bool := i.cause == none

end Sys2Proof
end

