-- ==== Sys2Proof/Safety.lean ====
section
/-! DEFINITION. The terms claims are stated in: the state the spec promises to keep, the two outside observers, the premises a
claim may take, and the whole step as the one listing of `40_adapter.md` R88, written again from the rules' numbers with none
of the model's operations. -/

namespace Sys2Proof.Machine

/-! ## What holds in every reachable state -/

/-- The three promises of the state: `ERR = MISS_RD + MISS_WR` between steps (R26); the line is low while the mask bit is clear
(R121); the identification bytes are the configured constants (R23). -/
structure State.Inv (s : State) : Prop where
  accounts : s.err = s.missRd + s.missWr
  masked : s.imsc.getLsbD 0 = false → s.irq = false
  constant : ∀ k : Fin 8, s.idReg[k] = Config.idByte k

/-! ## Observers -/

/-- What the interrupt consumer sees after a step (R9, R24, R51): the level; `true` is asserted (R120; log entry 23). -/
def State.line (s : State) : Bool := s.irq

/-- The three counters as the telemetry reader sees them (R9, R165). -/
structure Telemetry where
  err : Nat
  missRd : Nat
  missWr : Nat
deriving DecidableEq, Repr

/-- The counters between two steps. -/
def State.telemetry (s : State) : Telemetry := ⟨s.err, s.missRd, s.missWr⟩

/-- No counter is lower in `b` than in `a`. -/
structure Telemetry.Le (a b : Telemetry) : Prop where
  err : a.err ≤ b.err
  missRd : a.missRd ≤ b.missRd
  missWr : a.missWr ≤ b.missWr

/-- What one reading may see of the counters while the step from `before` to `after` is under way: each counter at a value it held,
with no order between different counters (R50 (a), (c); D21; log entry 16). -/
structure Telemetry.MidStep (before after seen : Telemetry) : Prop where
  err : seen.err = before.err ∨ seen.err = after.err
  missRd : seen.missRd = before.missRd ∨ seen.missRd = after.missRd
  missWr : seen.missWr = before.missWr ∨ seen.missWr = after.missWr

/-- The readings a reader may make one after another while a step from `before` to `after` is under way (R50; log entry 16):
each counter takes its step once, so where a reading has seen its new value every later one sees it too (b), while the
counters move in any order among themselves (c). What a reading saw is where the rest of the step begins. -/
def Telemetry.Readings (before after : Telemetry) : List Telemetry → Prop
  | [] => True
  | seen :: later => Telemetry.MidStep before after seen ∧ Telemetry.Readings seen after later

/-- The readings a reader may make one after another during a run from `s` to `u`, at and between its steps (R9, R50). -/
inductive State.Observed : State → List Telemetry → State → Prop where
  /-- No step is served; a reading between steps sees the counters as they are. -/
  | rest (s : State) (n : Nat) : Observed s (List.replicate n s.telemetry) s
  /-- Any readings during the first step, then those of the run from the state it answers. -/
  | serve {s t u : State} {during later : List Telemetry} (h : step s = .next t)
      (hd : Telemetry.Readings s.telemetry t.telemetry during) (hl : Observed t later u) : Observed s (during ++ later) u

/-! ## Premises and options -/

/-- `CLOCK_MONOTONE` (R8): no pending delivery has an earlier clock reading than one before it. A premise, not enforced. -/
def State.ClockMonotone (s : State) : Prop := (s.inbox.map Delivery.now).Pairwise (· ≤ ·)

/-- `LINE_MAY_FOLLOW_MIS` (D13): with this option on, the state `t` a step answers may also have its line asserted when
`MISV(now)` is not zero. The option is off by default and `step` does not take it; a claim may (log entry 11). -/
def State.LineMayFollowMis (m : Word → Word → Bool) (t u : State) : Prop :=
  u = t ∨ (t.misv m t.now ≠ 0 ∧ u = { t with irq := true })

end Sys2Proof.Machine

namespace Sys2Proof.Listing

open Machine

/-! ## The step as one listing (R87, R88) -/

/-- `b0 + 256*b1 + 65536*b2 + 16777216*b3` (section 5.2), for the four bytes of a write; the listing asks it
of no other length. -/
def payload : List Byte → Word
  | [b0, b1, b2, b3] =>
    BitVec.ofNat 32 (b0.toNat + 256 * b1.toNat + 65536 * b2.toNat + 16777216 * b3.toNat)
  | _ => 0

/-- `[v[7:0] v[15:8] v[23:16] v[31:24]]` (section 5.2), by division. -/
def spread (v : Word) : List Byte :=
  [BitVec.ofNat 8 v.toNat, BitVec.ofNat 8 (v.toNat / 256), BitVec.ofNat 8 (v.toNat / 65536),
    BitVec.ofNat 8 (v.toNat / 16777216)]

/-- R64: the low seven offsets, then `k = (off - 0xFE0) / 4` for a multiple of 4 in `0xFE0 .. 0xFFC`. -/
def register (off : Nat) : Option Reg :=
  if off = 0x00 then some .lr
  else if off = 0x04 then some .mr
  else if off = 0x08 then some .rtccr
  else if off = 0x0C then some .imsc
  else if off = 0x10 then some .ris
  else if off = 0x14 then some .mis
  else if off = 0x18 then some .icr
  else if h : 0xFE0 ≤ off ∧ off ≤ 0xFFC ∧ off % 4 = 0 then some (.id ⟨(off - 0xFE0) / 4, by omega⟩)
  else none

/-- `(LRV + now - BASE) mod 2^32` over the integers (R16). -/
def counter (s : State) (now : Int) : Word := BitVec.ofInt 32 (s.lrv.toNat + now - s.base)

/-- `RISV(now)`: 1 or 0 (R20). -/
def raw (m : Word → Word → Bool) (s : State) (now : Int) : Word := if m (counter s now) s.mr then 1 else 0

/-- `invalid_read()` (R84). -/
def invalidRead (s : State) : State := { s with missRd := s.missRd + 1, err := s.err + 1 }

/-- `invalid_write()` (R84). -/
def invalidWrite (s : State) : State := { s with missWr := s.missWr + 1, err := s.err + 1 }

/-- `register_read(S, reg, now)` (R87, R88): the state after and the value, `none` for an Invalid Access. -/
def registerRead (m : Word → Word → Bool) (s : State) (r : Option Reg) (now : Int) : State × Option Word :=
  match r with
  | some .lr => (s, some (counter s now))
  | some .mr => (s, some s.mr)
  | some .rtccr => (s, some (if s.en then 1 else 0))
  | some .imsc => (s, some s.imsc)
  | some .ris => (s, some (raw m s now))
  | some .mis => (s, some (raw m s now &&& s.imsc))
  | some (.id k) => (s, some (BitVec.ofNat 32 s.idReg[k].toNat))
  | some .icr => (invalidRead s, none)
  | none => (invalidRead s, none)

/-- `register_write(S, reg, v, now)` (R87, R88). -/
def registerWrite (m : Word → Word → Bool) (s : State) (r : Option Reg) (v : Word) (now : Int) : State :=
  match r with
  | some .lr => { s with lrv := v, base := now }
  | some .mr => { s with mr := v }
  | some .rtccr => { s with en := s.en || v.toNat % 2 == 1 }
  | some .imsc => { s with imsc := v, irq := raw m s now &&& v != 0 }
  | some .icr => { s with irq := false }
  | some .ris => invalidWrite s
  | some .mis => invalidWrite s
  | some (.id _) => invalidWrite s
  | none => invalidWrite s

/-- `step(S, (dir, off, len, data), now)` of R88: the state after and the result, which a write does not have. -/
def step (m : Word → Word → Bool) (s : State) (t : Txn) (now : Int) : State × Option ReadResult :=
  match t with
  | .read off out =>
    if out.length ≠ 4 then (invalidRead s, some .noData)
    else
      match registerRead m s (register off) now with
      | (s', some v) => (s', some (.data (spread v)))
      | (s', none) => (s', some .noData)
  | .write off data =>
    if data.length ≠ 4 then (invalidWrite s, none)
    else (registerWrite m s (register off) (payload data) now, none)

/-- The caller's buffer after the transaction (R86): the data of a valid read, and otherwise what it held. -/
def bufferAfter (t : Txn) : Option ReadResult → List Byte
  | some (.data bytes) => bytes
  | some .noData => t.buffer
  | none => t.buffer

end Sys2Proof.Listing
end

