-- ==== Sys2Proof/WellFormed.lean ====
section
/-! DEFINITION. Which operations a transaction can decode to (`30_encoding.md` R63, R65): a wrong width really is wrong, an
unmapped offset really names no register. Every other operation is well formed whatever its operand: every `u32` is legal
(R151). -/

namespace Sys2Proof

/-- The operation's operands are such as its row of R65 allows. -/
def Instr.wf : Instr → Bool
  | .rdBadlen _ len => len != accessLen
  | .wrBadlen _ data => data.length != accessLen
  | .rdUnmapped off => lookup off == none
  | .wrUnmapped off _ => lookup off == none
  | .rdLr => true
  | .wrLr _ => true
  | .rdMr => true
  | .wrMr _ => true
  | .rdRtccr => true
  | .wrRtccr _ => true
  | .rdImsc => true
  | .wrImsc _ => true
  | .rdRis => true
  | .wrRis _ => true
  | .rdMis => true
  | .wrMis _ => true
  | .rdIcr => true
  | .wrIcr _ => true
  | .rdId0 => true
  | .rdId1 => true
  | .rdId2 => true
  | .rdId3 => true
  | .rdId4 => true
  | .rdId5 => true
  | .rdId6 => true
  | .rdId7 => true
  | .wrId0 _ => true
  | .wrId1 _ => true
  | .wrId2 _ => true
  | .wrId3 _ => true
  | .wrId4 _ => true
  | .wrId5 _ => true
  | .wrId6 _ => true
  | .wrId7 _ => true

end Sys2Proof
end

