-- ==== Sys2Proof/Certificates/Slice0/Obligations.lean ====
section
/-! DEFINITION. The statements for the provers. Each docstring names the rule or the sections of spec/ it rests on. A number such
as D19 is a decision of `92_eei_decisions.md`, the spec's own choice where its source is silent. -/

open Sys2Proof Sys2Proof.Machine

/-! ## Encoding and decoding -/

/-- `30_encoding.md` sections 1 to 3: every operation a transaction can decode to, with every operand at every value, is decoded
from the transaction that encodes it. -/
def Obligations.DecodeUndoesEncode : Prop :=
  ∀ i : Instr, i.wf = true → decode (encode i) = i

/-- `30_encoding.md` sections 1 to 3: the encoding of what a transaction decodes to is the same request: its direction, offset,
length and, for a write, every byte of its data. (The bytes of a read's buffer are no part of the request.) -/
def Obligations.EncodeRestoresTheRequest : Prop :=
  ∀ t : Txn, (encode (decode t)).isWrite = t.isWrite ∧ (encode (decode t)).off = t.off ∧
    (encode (decode t)).len = t.len ∧ (t.isWrite = true → encode (decode t) = t)

/-- `30_encoding.md` section 3 (R63 to R65). The spec's own choices in it: the offsets of the eight identification registers (D3,
log entry 12), the offset compared at full width (D2, log entry 13), and length 0 among the wrong widths (D23, log entry 24).
The width is decided first, then the offset; each of the fifteen offsets has its operation in each direction; and
every other 4-byte access is `UNMAPPED`. A written value is the sum of section 5.2, `Listing.payload`. -/
def Obligations.DecodingFollowsTheOperationMap : Prop :=
  (∀ off out, out.length ≠ 4 → decode (.read off out) = .rdBadlen off out.length) ∧
  (∀ off data, data.length ≠ 4 → decode (.write off data) = .wrBadlen off data) ∧
  (∀ out : List Byte, out.length = 4 →
    decode (.read 0x000 out) = .rdLr ∧ decode (.read 0x004 out) = .rdMr ∧
    decode (.read 0x008 out) = .rdRtccr ∧ decode (.read 0x00C out) = .rdImsc ∧
    decode (.read 0x010 out) = .rdRis ∧ decode (.read 0x014 out) = .rdMis ∧
    decode (.read 0x018 out) = .rdIcr ∧
    decode (.read 0xFE0 out) = .rdId0 ∧ decode (.read 0xFE4 out) = .rdId1 ∧
    decode (.read 0xFE8 out) = .rdId2 ∧ decode (.read 0xFEC out) = .rdId3 ∧
    decode (.read 0xFF0 out) = .rdId4 ∧ decode (.read 0xFF4 out) = .rdId5 ∧
    decode (.read 0xFF8 out) = .rdId6 ∧ decode (.read 0xFFC out) = .rdId7) ∧
  (∀ b0 b1 b2 b3 : Byte, ∀ v : Word, v = Listing.payload [b0, b1, b2, b3] →
    decode (.write 0x000 [b0, b1, b2, b3]) = .wrLr v ∧ decode (.write 0x004 [b0, b1, b2, b3]) = .wrMr v ∧
    decode (.write 0x008 [b0, b1, b2, b3]) = .wrRtccr v ∧ decode (.write 0x00C [b0, b1, b2, b3]) = .wrImsc v ∧
    decode (.write 0x010 [b0, b1, b2, b3]) = .wrRis v ∧ decode (.write 0x014 [b0, b1, b2, b3]) = .wrMis v ∧
    decode (.write 0x018 [b0, b1, b2, b3]) = .wrIcr v ∧
    decode (.write 0xFE0 [b0, b1, b2, b3]) = .wrId0 v ∧ decode (.write 0xFE4 [b0, b1, b2, b3]) = .wrId1 v ∧
    decode (.write 0xFE8 [b0, b1, b2, b3]) = .wrId2 v ∧ decode (.write 0xFEC [b0, b1, b2, b3]) = .wrId3 v ∧
    decode (.write 0xFF0 [b0, b1, b2, b3]) = .wrId4 v ∧ decode (.write 0xFF4 [b0, b1, b2, b3]) = .wrId5 v ∧
    decode (.write 0xFF8 [b0, b1, b2, b3]) = .wrId6 v ∧ decode (.write 0xFFC [b0, b1, b2, b3]) = .wrId7 v) ∧
  (∀ off, off ∉ [0x000, 0x004, 0x008, 0x00C, 0x010, 0x014, 0x018,
      0xFE0, 0xFE4, 0xFE8, 0xFEC, 0xFF0, 0xFF4, 0xFF8, 0xFFC] →
    (∀ out, out.length = 4 → decode (.read off out) = .rdUnmapped off) ∧
    (∀ b0 b1 b2 b3 : Byte, decode (.write off [b0, b1, b2, b3]) = .wrUnmapped off (Listing.payload [b0, b1, b2, b3])))

/-- `30_encoding.md` section 3: what a transaction decodes to is well formed and has its direction. -/
def Obligations.EveryTransactionDecodesWellFormed : Prop :=
  ∀ t : Txn, (decode t).wf = true ∧ (decode t).isWrite = t.isWrite

/-- `20_memory.md` sections 2 and 3 (D3, log entry 12: the bound `0xFE0` and the identification registers from there on; D2, log
entry 13: full width): the offsets that name no register are the misaligned ones, those from `0x01C` to below
`0xFE0`, and all from `0x1000` on. -/
def Obligations.UnmappedOffsetsAreExactlyTheListedRanges : Prop :=
  ∀ off : Nat, lookup off = none ↔ (off % 4 ≠ 0 ∨ (0x01C ≤ off ∧ off < 0xFE0) ∨ 0x1000 ≤ off)

/-- `30_encoding.md` section 1 (D16): each of the 8192 keys decodes to a well-formed operation with that key, and no other number
is a key. -/
def Obligations.EveryKeySelectsTheOperationWithThatKey : Prop :=
  (∀ key, key < 0x2000 → ∃ i, decodeTableWord 16 key = some i ∧ i.wf = true ∧ i.key = some key) ∧
  (∀ key, 0x2000 ≤ key → decodeTableWord 16 key = none)

/-- `30_encoding.md` section 3: some keys of R65, written out, decode to their operations, at least one per family. The key is the
spec's own packing (D16), and that a key's write carries four zero bytes, so that its value is 0, is the model's choice (log
entry 17); the identification offsets are D3's (log entry 12); bit 12 is the direction. -/
def Obligations.WrittenOutKeysDecode : Prop :=
  decodeTableWord 16 0b0000000000000 = some .rdLr ∧
  decodeTableWord 16 0b1000000000100 = some (.wrMr 0) ∧
  decodeTableWord 16 0b0000000010000 = some .rdRis ∧
  decodeTableWord 16 0b1000000011000 = some (.wrIcr 0) ∧
  decodeTableWord 16 0b0111111110100 = some .rdId5 ∧
  decodeTableWord 16 0b1111111111100 = some (.wrId7 0) ∧
  decodeTableWord 16 0b0000000011100 = some (.rdUnmapped 0x01C) ∧
  decodeTableWord 16 0b1000000000110 = some (.wrUnmapped 0x006 0)

/-- `00_scope.md` section 5.2, `20_memory.md` section 1: the two conversions are inverse to each other, `le32` is the sum the spec
writes, and the byte at the lowest address is bits 7:0. -/
def Obligations.ByteOrderIsLittleEndian : Prop :=
  (∀ v : Word, le32 (bytesLe v) = v) ∧
  (∀ b0 b1 b2 b3 : Byte, bytesLe (le32 [b0, b1, b2, b3]) = [b0, b1, b2, b3] ∧
    (le32 [b0, b1, b2, b3]).toNat = b0.toNat + 256 * b1.toNat + 65536 * b2.toNat + 16777216 * b3.toNat) ∧
  (∀ v : Word, ∀ k : Fin 4, ∀ j : Fin 8, ((bytesLe v)[k.val]'k.isLt).getLsbD j = v.getLsbD (8 * k + j))

/-! ## The step -/

/-- `00_scope.md` section 4 (R7), `10_state.md` section 3, `20_memory.md` section 4: with a transaction pending, a step accepts it
(it leaves the pending ones, its clock reading is this step's `now`, its buffer the caller's buffer) and is exactly the
operation it decodes to. -/
def Obligations.StepRunsTheDecodedOperation : Prop :=
  ∀ (s : State) (d : Delivery) (rest : List Delivery), s.inbox = d :: rest →
    step s = exec (decode d.txn) { s with inbox := rest, now := d.now, buf := d.txn.buffer }

/-- R85: for every state, every transaction and every `now` the step yields a next state; it consumes exactly that transaction.
Every operation by itself completes too. -/
def Obligations.EveryTransactionCompletes : Prop :=
  (∀ (s : State) (now : Int) (txn : Txn),
    ∃ t, step { s with inbox := ⟨now, txn⟩ :: s.inbox } = .next t ∧ t.inbox = s.inbox) ∧
  (∀ (i : Instr) (s : State), ∃ t, exec i s = .next t ∧ t.inbox = s.inbox)

/-- `40_adapter.md` section 3: the step is the spec's one listing of it, written again in Safety.lean with none of the model's
operations; the result and the caller's buffer are the listing's too. -/
def Obligations.StepIsTheSpecsListing : Prop :=
  ∀ (s : State) (d : Delivery) (rest : List Delivery), s.inbox = d :: rest →
    step s = .next
      { (Listing.step Config.matchCond s d.txn d.now).1 with
        inbox := rest
        now := d.now
        result := (Listing.step Config.matchCond s d.txn d.now).2
        buf := Listing.bufferAfter d.txn (Listing.step Config.matchCond s d.txn d.now).2 }

/-- The model's choice (log entry 2; R7 says only that no step happens without a transaction): with none pending, a step leaves
the state as it is. Log entry 17: an opcode-table word placed by `withFetchWord` is what the next step runs. -/
def Obligations.IdleStepsAndPlacedWords : Prop :=
  (∀ s : State, s.inbox = [] → step s = .next s) ∧
  (∀ (s : State) (key : Nat) (i : Instr), decodeTableWord 16 key = some i →
    step (s.withFetchWord 16 key) = exec i { s with buf := [0, 0, 0, 0] })

/-! ## The counter registers -/

/-- `41_counter_regs.md` section 2, `10_state.md` section 2 (D19: modulo `2^32`; D5: any `now`): `RD.LR` returns
`(LRV + now - BASE) mod 2^32`, least significant byte first, and changes nothing else. -/
def Obligations.ReadLrReturnsTheRunningCounter : Prop :=
  ∀ s : State, ∃ v : Word, v = BitVec.ofInt 32 (s.lrv.toNat + s.now - s.base) ∧
    exec .rdLr s = .next { s with buf := bytesLe v, result := some (.data (bytesLe v)) }

/-- `41_counter_regs.md` section 2 (D13: the line stays): `WR.LR` stores the value and the present `now`, and nothing else. -/
def Obligations.WriteLrLoadsTheCounter : Prop :=
  ∀ (v : Word) (s : State), exec (.wrLr v) s = .next { s with lrv := v, base := s.now, result := none }

/-- R97, R98: `MR` is pure storage, 0 after reset. Its keys, the value read, the value written, and nothing else changes. -/
def Obligations.MrIsPureStorage : Prop :=
  (∀ s : State, exec .rdMr s = .next { s with buf := bytesLe s.mr, result := some (.data (bytesLe s.mr)) }) ∧
  (∀ (v : Word) (s : State), exec (.wrMr v) s = .next { s with mr := v, result := none }) ∧
  Instr.key .rdMr = some 0x0004 ∧ (∀ v, Instr.key (.wrMr v) = some 0x1004) ∧ State.reset.mr = 0

/-- `41_counter_regs.md` section 4 (D8, log entry 14: bit 0, with zeros above; D10, log entry 6: the value after reset):
`RD.RTCCR` returns the enable bit in bit 0 and zeros above, and changes nothing else; after reset it is
`Cfg.RTCCR_EN_RESET`. -/
def Obligations.ReadRtccrReturnsTheEnableBit : Prop :=
  (∀ s : State, exec .rdRtccr s = .next
    { s with
      buf := [if s.en then 1 else 0, 0, 0, 0]
      result := some (.data [if s.en then 1 else 0, 0, 0, 0]) }) ∧
  Instr.key .rdRtccr = some 0x0008 ∧ State.reset.en = Config.rtccrEnReset

/-- `41_counter_regs.md` section 4 (D8: bit 0): `WR.RTCCR` sets the enable bit when bit 0 of the value is set, leaves it as it is
when the bit is clear, and changes nothing else. -/
def Obligations.WriteRtccrOnlySetsTheEnableBit : Prop :=
  ∀ (v : Word) (s : State),
    (v.toNat % 2 = 1 → exec (.wrRtccr v) s = .next { s with en := true, result := none }) ∧
    (v.toNat % 2 = 0 → exec (.wrRtccr v) s = .next { s with result := none })

/-- `10_state.md` section 2 (D19, D5): the counter is `(LRV + now - BASE) mod 2^32`, and the single `u32` `LRV +32 (-BASE)` gives
the same counter. -/
def Obligations.CounterIsOneOffsetFromTheClock : Prop :=
  ∀ (s : State) (now : Int),
    s.counter now = BitVec.ofInt 32 (s.lrv.toNat + now - s.base) ∧
    ((s.counter now).toNat : Int) = (s.lrv.toNat + now - s.base) % 2 ^ 32 ∧
    s.counter now = (s.lrv + BitVec.ofInt 32 (-s.base)) + BitVec.ofInt 32 now

/-- `41_counter_regs.md` section 1, `70_reset_and_hazards.md` section 3 (D19): the counter advances by one per second, from
`0xFFFFFFFF` to 0, and comes round after `2^32` seconds. -/
def Obligations.CounterAdvancesAndWraps : Prop :=
  ∀ (s : State) (now : Int),
    s.counter (now + 1) = s.counter now + 1 ∧
    (s.counter now = 0xFFFFFFFF → s.counter (now + 1) = 0) ∧
    s.counter (now + 2 ^ 32) = s.counter now

/-- `41_counter_regs.md` section 2: after `WR.LR` the counter is the value written plus the seconds since; writing the value `LR`
reads leaves every later reading as it was. -/
def Obligations.LoadSeedsTheCounter : Prop :=
  ∀ (v : Word) (s : State), ∃ t, exec (.wrLr v) s = .next t ∧
    t.counter s.now = v ∧
    (∀ now, t.counter now = v + BitVec.ofInt 32 (now - s.now)) ∧
    (v = s.counter s.now → ∀ now, t.counter now = s.counter now)

/-- `41_counter_regs.md` section 4 (D20): the enable bit gates nothing. Setting it otherwise beforehand changes neither what an
operation other than `RD.RTCCR` answers nor any component but the bit; and `RD.RTCCR` only in the data it returns. -/
def Obligations.EnableBitGatesNothing : Prop :=
  ∀ (i : Instr) (s t : State) (b : Bool), exec i s = .next t →
    (i ≠ .rdRtccr → ∃ b', exec i { s with en := b } = .next { t with en := b' }) ∧
    (i = .rdRtccr → ∃ v, exec i { s with en := b } =
      .next { t with en := b, buf := bytesLe v, result := some (.data (bytesLe v)) })

/-- `00_scope.md` section 4 (D5): the clock is read by `RD.LR`, `WR.LR`, `RD.RIS`, `RD.MIS` and `WR.IMSC` and by no other
operation. -/
def Obligations.OnlyFiveOperationsReadTheClock : Prop :=
  ∀ (i : Instr) (s t : State) (now : Int),
    i ≠ .rdLr → (∀ v, i ≠ .wrLr v) → i ≠ .rdRis → i ≠ .rdMis → (∀ v, i ≠ .wrImsc v) →
    exec i s = .next t → exec i { s with now := now } = .next { t with now := now }

/-! ## The interrupt registers and the line -/

/-- `42_interrupt_regs.md` section 2 (D9, log entry 14: all 32 bits are kept): `RD.IMSC` returns all 32 bits of the mask and changes nothing else; the mask is 0 after reset. -/
def Obligations.ReadImscReturnsTheMask : Prop :=
  (∀ s : State, exec .rdImsc s = .next { s with buf := bytesLe s.imsc, result := some (.data (bytesLe s.imsc)) }) ∧
  Instr.key .rdImsc = some 0x000C ∧ State.reset.imsc = 0

/-- R111: `WR.IMSC` stores the value and recomputes the line: asserted exactly when the match condition holds at this `now` and
bit 0 of the value is set. Nothing else changes. -/
def Obligations.WriteImscStoresAndRecomputesTheLine : Prop :=
  (∀ (v : Word) (s : State), exec (.wrImsc v) s = .next
    { s with
      imsc := v
      irq := Config.matchCond (s.counter s.now) s.mr && v.toNat % 2 == 1
      result := none }) ∧
  (∀ v, Instr.key (.wrImsc v) = some 0x100C)

/-- `42_interrupt_regs.md` section 3 (D6: `Cfg.MATCH`; D7: nothing is latched): `RD.RIS` returns 1 when the match condition holds
at this `now` and 0 otherwise, and changes nothing else. -/
def Obligations.ReadRisReturnsTheMatchCondition : Prop :=
  ∀ s : State, exec .rdRis s = .next
    { s with
      buf := [if Config.matchCond (s.counter s.now) s.mr then 1 else 0, 0, 0, 0]
      result := some (.data [if Config.matchCond (s.counter s.now) s.mr then 1 else 0, 0, 0, 0]) }

/-- R114: `RD.MIS` returns `RISV(now) & IMSC`, which is 1 exactly when the match condition holds at this `now` and bit 0 of the
mask is set, and changes nothing else. -/
def Obligations.ReadMisReturnsTheMaskedStatus : Prop :=
  (∀ s : State, ∃ v : Word, v = s.risv Config.matchCond s.now &&& s.imsc ∧
    v = (if Config.matchCond (s.counter s.now) s.mr && s.imsc.getLsbD 0 then 1 else 0) ∧
    exec .rdMis s = .next { s with buf := bytesLe v, result := some (.data (bytesLe v)) }) ∧
  Instr.key .rdMis = some 0x0014

/-- `42_interrupt_regs.md` section 5 (C6 and D7, log entry 10: no raw status is stored, so there is nothing else to clear): any
write of `ICR` deasserts the line, whatever the value, and changes nothing else. -/
def Obligations.WriteIcrDeassertsTheLine : Prop :=
  (∀ (v : Word) (s : State), exec (.wrIcr v) s = .next { s with irq := false, result := none }) ∧
  (∀ v, Instr.key (.wrIcr v) = some 0x1018)

/-- R21: whatever the match condition, the masked status is `RISV(now) & IMSC`, always 0 or 1, and 1 exactly when the raw status
is 1 and bit 0 of the mask is set. -/
def Obligations.MaskedStatusIsRawAndMaskBitZero : Prop :=
  ∀ (m : Word → Word → Bool) (s : State) (now : Int),
    s.misv m now = s.risv m now &&& s.imsc ∧
    (s.misv m now = 0 ∨ s.misv m now = 1) ∧
    (s.misv m now = 1 ↔ s.risv m now = 1 ∧ s.imsc.getLsbD 0 = true)

/-- `42_interrupt_regs.md` sections 1 and 3, `10_state.md` section 2 (D6): the raw status is 1 when the match condition holds and
0 otherwise, for every match condition, and depends on nothing but the counter, `MR` and that condition. -/
def Obligations.RawStatusIsTheMatchCondition : Prop :=
  ∀ (m : Word → Word → Bool) (s : State) (now : Int),
    s.risv m now = (if m (s.counter now) s.mr then 1 else 0) ∧
    ∀ (t : State) (now' : Int), t.counter now' = s.counter now → t.mr = s.mr → t.risv m now' = s.risv m now

/-- `42_interrupt_regs.md` section 6: right after `WR.IMSC` the line agrees with `MISV` at that `now`, for every match
condition; with bit 0 of the mask clear the line is low and `MISV` is 0 at every `now`, even if the mask is not zero. -/
def Obligations.WriteImscMakesTheLineAgreeWithMis : Prop :=
  ∀ (m : Word → Word → Bool) (v : Word) (now : Int) (s : State),
    (s.writeImsc m v now).irq = ((s.writeImsc m v now).misv m now != 0) ∧
    (v.getLsbD 0 = false → (s.writeImsc m v now).irq = false ∧ ∀ now', (s.writeImsc m v now).misv m now' = 0)

/-- `70_reset_and_hazards.md` section 3, `42_interrupt_regs.md` section 5 (D7): `WR.ICR` does not change what `RIS` and `MIS` read,
for any match condition, and a write of `IMSC` with bit 0 set asserts the line again while the condition holds. -/
def Obligations.ClearLeavesTheStatusAndTheLineCanRise : Prop :=
  ∀ (m : Word → Word → Bool) (v w : Word) (s : State), ∃ t, exec (.wrIcr v) s = .next t ∧ t.irq = false ∧
    (∀ now, t.risv m now = s.risv m now ∧ t.misv m now = s.misv m now) ∧
    (∀ now, m (s.counter now) s.mr = true → w.getLsbD 0 = true → (t.writeImsc m w now).irq = true)

/-- `42_interrupt_regs.md` section 6 (D13): a step that changes the line serves a `WR.IMSC`, which leaves it as computed, or a
`WR.ICR`, which leaves it low; reset leaves it low. -/
def Obligations.LineMovesOnlyAtImscAndIcrWrites : Prop :=
  (∀ s t : State, step s = .next t → t.irq ≠ s.irq →
    ∃ d rest, s.inbox = d :: rest ∧
      ((∃ v, decode d.txn = .wrImsc v ∧
          t.irq = (s.risv Config.matchCond d.now &&& v != 0)) ∨
        (∃ v, decode d.txn = .wrIcr v ∧ t.irq = false))) ∧
  State.reset.irq = false

/-- `70_reset_and_hazards.md` section 3 (R176; D13): from a low line, no number of transactions without a `WR.IMSC` among them
asserts it, whatever the clock and the match condition do. -/
def Obligations.LineStaysLowWithoutAMaskWrite : Prop :=
  ∀ (k : Nat) (s t : State), s.irq = false →
    (∀ d ∈ s.inbox.take k, ∀ v, decode d.txn ≠ .wrImsc v) →
    Host.Core.run Sys2Proof.core k s = .next t → t.irq = false

/-! ## Invalid Accesses -/

/-- R82, R116: a read of an unmapped offset and a read of `ICR` add one to `MISS_RD` and `ERR`, return `NoData` and change
nothing else: not a register, not the line, not a byte of the caller's buffer. With their causes and the key of `ICR`. -/
def Obligations.InvalidReadsOnlyCount : Prop :=
  ∀ s : State,
    (∀ off, exec (.rdUnmapped off) s = .next
      { s with missRd := s.missRd + 1, err := s.err + 1, result := some .noData } ∧
      Instr.cause (.rdUnmapped off) = some .offset) ∧
    exec .rdIcr s = .next { s with missRd := s.missRd + 1, err := s.err + 1, result := some .noData } ∧
    Instr.cause .rdIcr = some .writeOnly ∧ Instr.key .rdIcr = some 0x0018

/-- R83, R113, R115: a write to an unmapped offset, to `RIS` or to `MIS` adds one to `MISS_WR` and `ERR` and changes nothing
else. With their causes and keys. -/
def Obligations.InvalidWritesOnlyCount : Prop :=
  ∀ (s : State) (v : Word),
    (∀ off, exec (.wrUnmapped off v) s = .next
      { s with missWr := s.missWr + 1, err := s.err + 1, result := none } ∧
      Instr.cause (.wrUnmapped off v) = some .offset) ∧
    exec (.wrRis v) s = .next { s with missWr := s.missWr + 1, err := s.err + 1, result := none } ∧
    Instr.cause (.wrRis v) = some .readOnly ∧ Instr.key (.wrRis v) = some 0x1010 ∧
    exec (.wrMis v) s = .next { s with missWr := s.missWr + 1, err := s.err + 1, result := none } ∧
    Instr.cause (.wrMis v) = some .readOnly ∧ Instr.key (.wrMis v) = some 0x1014

/-- `40_adapter.md` section 2 (D23: length 0 is one of them): an access of any length but 4 is decoded as such whatever its
offset, adds one to the counter of its direction and to `ERR`, and changes nothing else. -/
def Obligations.WrongWidthsOnlyCount : Prop :=
  ∀ (s : State) (off : Nat) (bytes : List Byte), bytes.length ≠ 4 →
    (decode (.read off bytes)).cause = some .width ∧
    exec (decode (.read off bytes)) s = .next
      { s with missRd := s.missRd + 1, err := s.err + 1, result := some .noData } ∧
    (decode (.write off bytes)).cause = some .width ∧
    exec (decode (.write off bytes)) s = .next
      { s with missWr := s.missWr + 1, err := s.err + 1, result := none }

/-- R151: the causes, operation by operation, and no other operation raises an Invalid Access: with no cause the three counters
stay and a read returns data; with a cause the counter of the operation's direction and `ERR` are one higher, and a read
returns `NoData`. -/
def Obligations.InvalidAccessesHaveExactlyTheListedCauses : Prop :=
  (∀ off len data v, Instr.cause (.rdBadlen off len) = some .width ∧ Instr.cause (.wrBadlen off data) = some .width ∧
    Instr.cause (.rdUnmapped off) = some .offset ∧ Instr.cause (.wrUnmapped off v) = some .offset ∧
    (∀ i ∈ [Instr.wrRis v, .wrMis v, .wrId0 v, .wrId1 v, .wrId2 v, .wrId3 v, .wrId4 v, .wrId5 v, .wrId6 v, .wrId7 v],
      i.cause = some .readOnly) ∧
    Instr.cause .rdIcr = some .writeOnly) ∧
  (∀ (i : Instr) (s t : State), exec i s = .next t →
    (i.cause = none → t.err = s.err ∧ t.missRd = s.missRd ∧ t.missWr = s.missWr ∧
      (i.isWrite = false → ∃ v, t.result = some (.data (bytesLe v)) ∧ t.buf = bytesLe v)) ∧
    (i.cause ≠ none → t.err = s.err + 1 ∧
      (i.isWrite = false → t.missRd = s.missRd + 1 ∧ t.missWr = s.missWr ∧ t.result = some .noData) ∧
      (i.isWrite = true → t.missWr = s.missWr + 1 ∧ t.missRd = s.missRd))) ∧
  (∀ i : Instr, i.cause = none → i ∈ [Instr.rdLr, .rdMr, .rdRtccr, .rdImsc, .rdRis, .rdMis,
      .rdId0, .rdId1, .rdId2, .rdId3, .rdId4, .rdId5, .rdId6, .rdId7] ∨
    ∃ v, i ∈ [Instr.wrLr v, .wrMr v, .wrRtccr v, .wrImsc v, .wrIcr v])

/-- `60_exceptions.md` section 2: a transaction's cause is the width first, then the offset, then the direction. -/
def Obligations.WidthThenOffsetThenDirection : Prop :=
  ∀ t : Txn, (decode t).cause =
    if t.len ≠ 4 then some .width
    else match lookup t.off with
      | none => some .offset
      | some .icr => if t.isWrite then none else some .writeOnly
      | some .ris => if t.isWrite then some .readOnly else none
      | some .mis => if t.isWrite then some .readOnly else none
      | some (.id _) => if t.isWrite then some .readOnly else none
      | some _ => none

/-- `20_memory.md` section 2 (D13): a read, valid or not, changes no component but the counters, and a valid one not those. -/
def Obligations.ReadsChangeNoComponentButTheCounters : Prop :=
  ∀ (s : State) (now : Int) (off : Nat) (out : List Byte) (rest : List Delivery),
    s.inbox = ⟨now, .read off out⟩ :: rest →
    ∃ t, step s = .next t ∧
      t = { s with
        err := t.err, missRd := t.missRd
        now := now, buf := t.buf, result := t.result, inbox := rest } ∧
      ((decode (.read off out)).cause = none → t.err = s.err ∧ t.missRd = s.missRd) ∧
      ((decode (.read off out)).cause ≠ none →
        t.err = s.err + 1 ∧ t.missRd = s.missRd + 1 ∧ t.buf = out ∧ t.result = some .noData)

/-- `40_adapter.md` section 1, `70_reset_and_hazards.md` section 3: what a caller's buffer holds before a read reaches no
component and no result; it is what the caller sees after an invalid read, and no byte of it after a valid one (D15). -/
def Obligations.CallersBufferReachesNothing : Prop :=
  ∀ (s : State) (now : Int) (off : Nat) (out out' : List Byte), out.length = out'.length →
    ∃ t t', step { s with inbox := ⟨now, .read off out⟩ :: s.inbox } = .next t ∧
      step { s with inbox := ⟨now, .read off out'⟩ :: s.inbox } = .next t' ∧
      t = { t' with buf := t.buf } ∧
      (t.result = some .noData → t.buf = out ∧ t'.buf = out') ∧
      (t.result ≠ some .noData → t.buf = t'.buf)

/-! ## The identification registers -/

/-- `43_id_regs.md` section 2 (D22, log entry 27: zeros above; D3, log entry 12: the keys, one byte per register): a read of `IDk` returns the identification byte in the lowest byte and zeros above, and changes nothing
else. -/
def Obligations.IdReadsReturnTheConstantByte : Prop :=
  ∀ s : State, ∀ ik ∈ [(Instr.rdId0, (0 : Fin 8), 0x0FE0), (.rdId1, 1, 0x0FE4), (.rdId2, 2, 0x0FE8), (.rdId3, 3, 0x0FEC),
      (.rdId4, 4, 0x0FF0), (.rdId5, 5, 0x0FF4), (.rdId6, 6, 0x0FF8), (.rdId7, 7, 0x0FFC)],
    exec ik.1 s = .next
      { s with buf := [s.idReg[ik.2.1], 0, 0, 0], result := some (.data [s.idReg[ik.2.1], 0, 0, 0]) } ∧
    ik.1.key = some ik.2.2

/-- `43_id_regs.md` section 3 (D3, log entry 12: the keys): a write of any value to any `IDk` adds one to `MISS_WR` and `ERR` and changes nothing else. -/
def Obligations.IdWritesOnlyCount : Prop :=
  ∀ (s : State) (v : Word), ∀ ik ∈ [(Instr.wrId0 v, 0x1FE0), (.wrId1 v, 0x1FE4), (.wrId2 v, 0x1FE8), (.wrId3 v, 0x1FEC),
      (.wrId4 v, 0x1FF0), (.wrId5 v, 0x1FF4), (.wrId6 v, 0x1FF8), (.wrId7 v, 0x1FFC)],
    exec ik.1 s = .next { s with missWr := s.missWr + 1, err := s.err + 1, result := none } ∧
      ik.1.cause = some .readOnly ∧ ik.1.key = some ik.2

/-! ## Invariants -/

/-- `10_state.md` section 2, `42_interrupt_regs.md` section 6: from every state that meets it, a step gives a state that meets the
invariant (the counters add up, the line is low while the mask bit is clear, the identification bytes are the configured
ones). -/
def Obligations.EveryStepKeepsTheStateInvariant : Prop :=
  ∀ s t : State, s.Inv → step s = .next t → t.Inv

/-- `10_state.md` section 7: the state after reset meets the invariant. -/
def Obligations.ResetMeetsTheStateInvariant : Prop := State.reset.Inv

/-- `10_state.md` section 7, `70_reset_and_hazards.md` section 1 (D10, D11, D12; log entries 5, 6 and 7): what construction
leaves, and what the first reads see: the counter is `(now - BASE) mod 2^32` of the unknown `BASE`, and the masked status is 0
whatever the counter and the match condition are. -/
def Obligations.ResetLeavesTheListedValues : Prop :=
  State.reset.lrv = 0 ∧ State.reset.mr = 0 ∧ State.reset.imsc = 0 ∧ State.reset.irq = false ∧
  State.reset.err = 0 ∧ State.reset.missRd = 0 ∧ State.reset.missWr = 0 ∧
  State.reset.en = Config.rtccrEnReset ∧ State.reset.base = Config.resetBase ∧
  (∀ k : Fin 8, State.reset.idReg[k] = Config.idByte k) ∧
  (∀ now, State.reset.counter now = BitVec.ofInt 32 (now - Config.resetBase)) ∧
  (∀ m now, State.reset.misv m now = 0)

/-- `40_adapter.md` section 1, `10_state.md` section 2 (D12): a step adds at most one to `ERR`, and adds exactly as much to the two
direction counters together; none of the three ever decreases. -/
def Obligations.CountersGrowByAtMostOneTogether : Prop :=
  ∀ s t : State, step s = .next t → ∃ r w : Nat, r + w ≤ 1 ∧
    t.missRd = s.missRd + r ∧ t.missWr = s.missWr + w ∧ t.err = s.err + r + w

/-- `10_state.md` section 2, `41_counter_regs.md` section 4, `70_reset_and_hazards.md` section 3: the enable bit never goes from 1
to 0 in any run, a step changes it only by serving a `WR.RTCCR` with bit 0 set, and such a step sets it. -/
def Obligations.EnableBitIsSticky : Prop :=
  (∀ (k : Nat) (s t : State), s.en = true → Host.Core.run Sys2Proof.core k s = .next t → t.en = true) ∧
  (∀ s t : State, step s = .next t → t.en ≠ s.en →
    ∃ d rest v, s.inbox = d :: rest ∧ decode d.txn = .wrRtccr v ∧ v.getLsbD 0 = true) ∧
  (∀ (s : State) (d : Delivery) (rest : List Delivery) (v : Word), s.inbox = d :: rest →
    decode d.txn = .wrRtccr v → v.getLsbD 0 = true → ∃ t, step s = .next t ∧ t.en = true)

/-- `10_state.md` section 2 ("only rule R96 writes it" and the like): a step that changes `LRV` or `BASE` serves a `WR.LR`, one that
changes `MR` a `WR.MR`, one that changes `IMSC` a `WR.IMSC`, and the component then holds the value written (`BASE` the clock
reading); no step changes an identification byte. -/
def Obligations.EachRegisterChangesOnlyByItsOwnWrite : Prop :=
  ∀ s t : State, step s = .next t →
    (t.lrv ≠ s.lrv ∨ t.base ≠ s.base →
      ∃ d rest v, s.inbox = d :: rest ∧ decode d.txn = .wrLr v ∧ t.lrv = v ∧ t.base = d.now) ∧
    (t.mr ≠ s.mr → ∃ d rest v, s.inbox = d :: rest ∧ decode d.txn = .wrMr v ∧ t.mr = v) ∧
    (t.imsc ≠ s.imsc → ∃ d rest v, s.inbox = d :: rest ∧ decode d.txn = .wrImsc v ∧ t.imsc = v) ∧
    t.idReg = s.idReg

/-! ## Runs -/

/-- `95_test_vectors.md` S1, `41_counter_regs.md` section 3: a value written to `MR` is read back, byte for byte, after any number
of other transactions none of which writes `MR`, valid or not, whatever the clock readings. -/
def Obligations.MatchRegisterReadsBackAcrossARun : Prop :=
  ∀ (s : State) (v : Word) (n n' : Int) (out : List Byte) (mids rest : List Delivery), out.length = 4 →
    s.inbox = ⟨n, .write 0x004 (bytesLe v)⟩ :: (mids ++ ⟨n', .read 0x004 out⟩ :: rest) →
    (∀ d ∈ mids, ∀ w, decode d.txn ≠ .wrMr w) →
    ∃ t, Host.Core.run Sys2Proof.core (mids.length + 2) s = .next t ∧
      t.result = some (.data (bytesLe v)) ∧ t.buf = bytesLe v ∧ t.inbox = rest

/-- `95_test_vectors.md` S2, `41_counter_regs.md` section 2 (D19, D5): a value written to `LR` is read back plus the seconds
between, after any number of other transactions none of which writes `LR`. -/
def Obligations.LoadedCounterReadsBackPlusElapsed : Prop :=
  ∀ (s : State) (v : Word) (n n' : Int) (out : List Byte) (mids rest : List Delivery), out.length = 4 →
    s.inbox = ⟨n, .write 0x000 (bytesLe v)⟩ :: (mids ++ ⟨n', .read 0x000 out⟩ :: rest) →
    (∀ d ∈ mids, ∀ w, decode d.txn ≠ .wrLr w) →
    ∃ t, Host.Core.run Sys2Proof.core (mids.length + 2) s = .next t ∧
      t.result = some (.data (bytesLe (v + BitVec.ofInt 32 (n' - n)))) ∧ t.inbox = rest

/-- `00_scope.md` section 4 (D5), `41_counter_regs.md` section 2: under the premise `CLOCK_MONOTONE`, after a `WR.LR` the premise
goes on holding, no pending delivery lies before the load, and at each the counter is the value written plus the whole seconds
since, modulo `2^32`. -/
def Obligations.MonotoneClockCountsUpFromTheLoad : Prop :=
  ∀ (s : State) (d : Delivery) (rest : List Delivery) (v : Word), s.ClockMonotone →
    s.inbox = d :: rest → decode d.txn = .wrLr v →
    ∃ t, step s = .next t ∧ t.ClockMonotone ∧
      ∀ d' ∈ rest, t.base ≤ d'.now ∧
        (t.counter d'.now).toNat = (v.toNat + (d'.now - d.now).toNat) % 2 ^ 32

/-! ## Observers and options -/

/-- `20_memory.md` section 4 (D21): what a telemetry reader sees during a step lies, counter by counter, between the values
before and after, and the aggregate it sees differs by at most one from the sum it sees, if the counters added up before. -/
def Obligations.TelemetryDuringAStepIsBounded : Prop :=
  ∀ (s t : State) (seen : Telemetry), step s = .next t → Telemetry.MidStep s.telemetry t.telemetry seen →
    (s.err ≤ seen.err ∧ seen.err ≤ t.err) ∧
    (s.missRd ≤ seen.missRd ∧ seen.missRd ≤ t.missRd) ∧
    (s.missWr ≤ seen.missWr ∧ seen.missWr ≤ t.missWr) ∧
    (s.err = s.missRd + s.missWr →
      seen.err ≤ seen.missRd + seen.missWr + 1 ∧ seen.missRd + seen.missWr ≤ seen.err + 1)

/-- `20_memory.md` section 4 (D21, log entry 16): over any run, whatever a telemetry reader reads one after another, at and during
steps, no counter is ever lower than in an earlier reading, none is lower than at the start of the run or higher than at its
end; and both half-updated views of a step are admitted, each followed by the updated one. -/
def Obligations.TelemetryReadingsNeverDecrease : Prop :=
  (∀ (s u : State) (readings : List Telemetry), State.Observed s readings u →
    readings.Pairwise Telemetry.Le ∧ ∀ r ∈ readings, Telemetry.Le s.telemetry r ∧ Telemetry.Le r u.telemetry) ∧
  (∀ s t : State, step s = .next t →
    State.Observed s [⟨t.err, s.missRd, s.missWr⟩, t.telemetry] t ∧
    State.Observed s [⟨s.err, t.missRd, t.missWr⟩, t.telemetry] t)

/-- `20_memory.md` section 4, `60_exceptions.md` section 9: the counters order nothing. What they hold before an operation
changes neither whether it completes nor any component of its answer but the three counters. -/
def Obligations.CountersOrderNothing : Prop :=
  ∀ (i : Instr) (s t : State) (e r w : Nat), exec i s = .next t →
    ∃ e' r' w', exec i { s with err := e, missRd := r, missWr := w } =
      .next { t with err := e', missRd := r', missWr := w' } ∧
      e' + s.err = e + t.err ∧ r' + s.missRd = r + t.missRd ∧ w' + s.missWr = w + t.missWr

/-- D13's option `LINE_MAY_FOLLOW_MIS` (off by default; log entry 11): even with it on, for whatever match condition it is taken
with, every state meets the invariant after a step, the line staying low while the mask bit is clear. -/
def Obligations.InvariantHoldsWithTheLineOption : Prop :=
  ∀ (m : Word → Word → Bool) (s t u : State), s.Inv → step s = .next t → State.LineMayFollowMis m t u → u.Inv
end

