-- ==== Sys2Proof/Laws/Decode.lean ====
section
/-! SUPPORT. The address map, from offset to register and back. -/

namespace Sys2Proof

/-- Every register is found at its own offset. -/
@[simp] theorem lookup_regOffset (r : Reg) : lookup (regOffset r) = some r := by
  cases r with
  | id k => revert k; decide
  | _ => rfl

/-- An offset names a register exactly when it is that register's offset. -/
theorem lookup_eq_some {off : Nat} {r : Reg} : lookup off = some r ↔ regOffset r = off := by
  constructor
  · intro h
    unfold lookup at h
    split at h
    · cases h
    · simpa using List.find?_some h
  · rintro rfl
    exact lookup_regOffset r

/-- An offset names no register exactly when it is no register's offset. -/
theorem lookup_eq_none {off : Nat} : lookup off = none ↔ ∀ r, regOffset r ≠ off := by
  constructor
  · rintro h r rfl
    simp at h
  · intro h
    cases hl : lookup off with
    | none => rfl
    | some r => exact absurd (lookup_eq_some.1 hl) (h r)

/-- A value laid out is four bytes. -/
@[simp] theorem Machine.bytesLe_length (v : Word) : (Machine.bytesLe v).length = accessLen := rfl

/-- Bit 12 of a key is the direction. -/
theorem keyOf_direction {t : Txn} {k : Nat} (h : keyOf t = some k) : windowSize ≤ k ↔ t.isWrite = true := by
  unfold keyOf at h
  split at h
  · rename_i hw
    cases h
    cases t <;> simp_all [Txn.isWrite, Txn.off]
  · cases h

end Sys2Proof
end

