-- ==== Sys2Proof/Laws/PerInstr.lean ====
section
/-! SUPPORT. Statements about every operation as syntax, one lemma per constructor. -/

namespace Sys2Proof.Laws

/-- Bit 12 of an operation's key is its direction (R60, R65). -/
def KeyDirection.Statement (i : Instr) : Prop := ∀ k, i.key = some k → (windowSize ≤ k ↔ i.isWrite = true)

theorem KeyDirection.rdBadlen (off len : Nat) : KeyDirection.Statement (.rdBadlen off len) := fun _ h => keyOf_direction h
theorem KeyDirection.wrBadlen (off : Nat) (data : List Byte) : KeyDirection.Statement (.wrBadlen off data) := fun _ h => keyOf_direction h
theorem KeyDirection.rdLr : KeyDirection.Statement (.rdLr) := fun _ h => keyOf_direction h
theorem KeyDirection.wrLr (v : Word) : KeyDirection.Statement (.wrLr v) := fun _ h => keyOf_direction h
theorem KeyDirection.rdMr : KeyDirection.Statement (.rdMr) := fun _ h => keyOf_direction h
theorem KeyDirection.wrMr (v : Word) : KeyDirection.Statement (.wrMr v) := fun _ h => keyOf_direction h
theorem KeyDirection.rdRtccr : KeyDirection.Statement (.rdRtccr) := fun _ h => keyOf_direction h
theorem KeyDirection.wrRtccr (v : Word) : KeyDirection.Statement (.wrRtccr v) := fun _ h => keyOf_direction h
theorem KeyDirection.rdImsc : KeyDirection.Statement (.rdImsc) := fun _ h => keyOf_direction h
theorem KeyDirection.wrImsc (v : Word) : KeyDirection.Statement (.wrImsc v) := fun _ h => keyOf_direction h
theorem KeyDirection.rdRis : KeyDirection.Statement (.rdRis) := fun _ h => keyOf_direction h
theorem KeyDirection.wrRis (v : Word) : KeyDirection.Statement (.wrRis v) := fun _ h => keyOf_direction h
theorem KeyDirection.rdMis : KeyDirection.Statement (.rdMis) := fun _ h => keyOf_direction h
theorem KeyDirection.wrMis (v : Word) : KeyDirection.Statement (.wrMis v) := fun _ h => keyOf_direction h
theorem KeyDirection.rdIcr : KeyDirection.Statement (.rdIcr) := fun _ h => keyOf_direction h
theorem KeyDirection.wrIcr (v : Word) : KeyDirection.Statement (.wrIcr v) := fun _ h => keyOf_direction h
theorem KeyDirection.rdId0 : KeyDirection.Statement (.rdId0) := fun _ h => keyOf_direction h
theorem KeyDirection.rdId1 : KeyDirection.Statement (.rdId1) := fun _ h => keyOf_direction h
theorem KeyDirection.rdId2 : KeyDirection.Statement (.rdId2) := fun _ h => keyOf_direction h
theorem KeyDirection.rdId3 : KeyDirection.Statement (.rdId3) := fun _ h => keyOf_direction h
theorem KeyDirection.rdId4 : KeyDirection.Statement (.rdId4) := fun _ h => keyOf_direction h
theorem KeyDirection.rdId5 : KeyDirection.Statement (.rdId5) := fun _ h => keyOf_direction h
theorem KeyDirection.rdId6 : KeyDirection.Statement (.rdId6) := fun _ h => keyOf_direction h
theorem KeyDirection.rdId7 : KeyDirection.Statement (.rdId7) := fun _ h => keyOf_direction h
theorem KeyDirection.wrId0 (v : Word) : KeyDirection.Statement (.wrId0 v) := fun _ h => keyOf_direction h
theorem KeyDirection.wrId1 (v : Word) : KeyDirection.Statement (.wrId1 v) := fun _ h => keyOf_direction h
theorem KeyDirection.wrId2 (v : Word) : KeyDirection.Statement (.wrId2 v) := fun _ h => keyOf_direction h
theorem KeyDirection.wrId3 (v : Word) : KeyDirection.Statement (.wrId3 v) := fun _ h => keyOf_direction h
theorem KeyDirection.wrId4 (v : Word) : KeyDirection.Statement (.wrId4 v) := fun _ h => keyOf_direction h
theorem KeyDirection.wrId5 (v : Word) : KeyDirection.Statement (.wrId5 v) := fun _ h => keyOf_direction h
theorem KeyDirection.wrId6 (v : Word) : KeyDirection.Statement (.wrId6 v) := fun _ h => keyOf_direction h
theorem KeyDirection.wrId7 (v : Word) : KeyDirection.Statement (.wrId7 v) := fun _ h => keyOf_direction h
theorem KeyDirection.rdUnmapped (off : Nat) : KeyDirection.Statement (.rdUnmapped off) := fun _ h => keyOf_direction h
theorem KeyDirection.wrUnmapped (off : Nat) (v : Word) : KeyDirection.Statement (.wrUnmapped off v) := fun _ h => keyOf_direction h

end Sys2Proof.Laws
end

