-- ==== Sys2Proof/Laws/State.lean ====
section
/-! SUPPORT. One lemma per field per update of the state, so that no later proof unfolds a record update. -/

namespace Sys2Proof.Machine

variable (s : State)

/-! ### countRead -/

@[simp] theorem State.countRead_lrv : (s.countRead).lrv = s.lrv := rfl
@[simp] theorem State.countRead_base : (s.countRead).base = s.base := rfl
@[simp] theorem State.countRead_mr : (s.countRead).mr = s.mr := rfl
@[simp] theorem State.countRead_en : (s.countRead).en = s.en := rfl
@[simp] theorem State.countRead_imsc : (s.countRead).imsc = s.imsc := rfl
@[simp] theorem State.countRead_irq : (s.countRead).irq = s.irq := rfl
@[simp] theorem State.countRead_err : (s.countRead).err = s.err + 1 := rfl
@[simp] theorem State.countRead_missRd : (s.countRead).missRd = s.missRd + 1 := rfl
@[simp] theorem State.countRead_missWr : (s.countRead).missWr = s.missWr := rfl
@[simp] theorem State.countRead_idReg : (s.countRead).idReg = s.idReg := rfl
@[simp] theorem State.countRead_now : (s.countRead).now = s.now := rfl
@[simp] theorem State.countRead_buf : (s.countRead).buf = s.buf := rfl
@[simp] theorem State.countRead_result : (s.countRead).result = s.result := rfl
@[simp] theorem State.countRead_inbox : (s.countRead).inbox = s.inbox := rfl

/-! ### countWrite -/

@[simp] theorem State.countWrite_lrv : (s.countWrite).lrv = s.lrv := rfl
@[simp] theorem State.countWrite_base : (s.countWrite).base = s.base := rfl
@[simp] theorem State.countWrite_mr : (s.countWrite).mr = s.mr := rfl
@[simp] theorem State.countWrite_en : (s.countWrite).en = s.en := rfl
@[simp] theorem State.countWrite_imsc : (s.countWrite).imsc = s.imsc := rfl
@[simp] theorem State.countWrite_irq : (s.countWrite).irq = s.irq := rfl
@[simp] theorem State.countWrite_err : (s.countWrite).err = s.err + 1 := rfl
@[simp] theorem State.countWrite_missRd : (s.countWrite).missRd = s.missRd := rfl
@[simp] theorem State.countWrite_missWr : (s.countWrite).missWr = s.missWr + 1 := rfl
@[simp] theorem State.countWrite_idReg : (s.countWrite).idReg = s.idReg := rfl
@[simp] theorem State.countWrite_now : (s.countWrite).now = s.now := rfl
@[simp] theorem State.countWrite_buf : (s.countWrite).buf = s.buf := rfl
@[simp] theorem State.countWrite_result : (s.countWrite).result = s.result := rfl
@[simp] theorem State.countWrite_inbox : (s.countWrite).inbox = s.inbox := rfl

/-! ### noData -/

@[simp] theorem State.noData_lrv : (s.noData).lrv = s.lrv := rfl
@[simp] theorem State.noData_base : (s.noData).base = s.base := rfl
@[simp] theorem State.noData_mr : (s.noData).mr = s.mr := rfl
@[simp] theorem State.noData_en : (s.noData).en = s.en := rfl
@[simp] theorem State.noData_imsc : (s.noData).imsc = s.imsc := rfl
@[simp] theorem State.noData_irq : (s.noData).irq = s.irq := rfl
@[simp] theorem State.noData_err : (s.noData).err = s.err := rfl
@[simp] theorem State.noData_missRd : (s.noData).missRd = s.missRd := rfl
@[simp] theorem State.noData_missWr : (s.noData).missWr = s.missWr := rfl
@[simp] theorem State.noData_idReg : (s.noData).idReg = s.idReg := rfl
@[simp] theorem State.noData_now : (s.noData).now = s.now := rfl
@[simp] theorem State.noData_buf : (s.noData).buf = s.buf := rfl
@[simp] theorem State.noData_result : (s.noData).result = some .noData := rfl
@[simp] theorem State.noData_inbox : (s.noData).inbox = s.inbox := rfl

/-! ### finishWrite -/

@[simp] theorem State.finishWrite_lrv : (s.finishWrite).lrv = s.lrv := rfl
@[simp] theorem State.finishWrite_base : (s.finishWrite).base = s.base := rfl
@[simp] theorem State.finishWrite_mr : (s.finishWrite).mr = s.mr := rfl
@[simp] theorem State.finishWrite_en : (s.finishWrite).en = s.en := rfl
@[simp] theorem State.finishWrite_imsc : (s.finishWrite).imsc = s.imsc := rfl
@[simp] theorem State.finishWrite_irq : (s.finishWrite).irq = s.irq := rfl
@[simp] theorem State.finishWrite_err : (s.finishWrite).err = s.err := rfl
@[simp] theorem State.finishWrite_missRd : (s.finishWrite).missRd = s.missRd := rfl
@[simp] theorem State.finishWrite_missWr : (s.finishWrite).missWr = s.missWr := rfl
@[simp] theorem State.finishWrite_idReg : (s.finishWrite).idReg = s.idReg := rfl
@[simp] theorem State.finishWrite_now : (s.finishWrite).now = s.now := rfl
@[simp] theorem State.finishWrite_buf : (s.finishWrite).buf = s.buf := rfl
@[simp] theorem State.finishWrite_result : (s.finishWrite).result = none := rfl
@[simp] theorem State.finishWrite_inbox : (s.finishWrite).inbox = s.inbox := rfl

/-! ### driveData -/

@[simp] theorem State.driveData_lrv (v : Word) : (s.driveData v).lrv = s.lrv := rfl
@[simp] theorem State.driveData_base (v : Word) : (s.driveData v).base = s.base := rfl
@[simp] theorem State.driveData_mr (v : Word) : (s.driveData v).mr = s.mr := rfl
@[simp] theorem State.driveData_en (v : Word) : (s.driveData v).en = s.en := rfl
@[simp] theorem State.driveData_imsc (v : Word) : (s.driveData v).imsc = s.imsc := rfl
@[simp] theorem State.driveData_irq (v : Word) : (s.driveData v).irq = s.irq := rfl
@[simp] theorem State.driveData_err (v : Word) : (s.driveData v).err = s.err := rfl
@[simp] theorem State.driveData_missRd (v : Word) : (s.driveData v).missRd = s.missRd := rfl
@[simp] theorem State.driveData_missWr (v : Word) : (s.driveData v).missWr = s.missWr := rfl
@[simp] theorem State.driveData_idReg (v : Word) : (s.driveData v).idReg = s.idReg := rfl
@[simp] theorem State.driveData_now (v : Word) : (s.driveData v).now = s.now := rfl
@[simp] theorem State.driveData_buf (v : Word) : (s.driveData v).buf = bytesLe v := rfl
@[simp] theorem State.driveData_result (v : Word) : (s.driveData v).result = some (.data (bytesLe v)) := rfl
@[simp] theorem State.driveData_inbox (v : Word) : (s.driveData v).inbox = s.inbox := rfl

/-! ### putLr -/

@[simp] theorem State.putLr_lrv (v : Word) (n : Int) : (s.putLr v n).lrv = v := rfl
@[simp] theorem State.putLr_base (v : Word) (n : Int) : (s.putLr v n).base = n := rfl
@[simp] theorem State.putLr_mr (v : Word) (n : Int) : (s.putLr v n).mr = s.mr := rfl
@[simp] theorem State.putLr_en (v : Word) (n : Int) : (s.putLr v n).en = s.en := rfl
@[simp] theorem State.putLr_imsc (v : Word) (n : Int) : (s.putLr v n).imsc = s.imsc := rfl
@[simp] theorem State.putLr_irq (v : Word) (n : Int) : (s.putLr v n).irq = s.irq := rfl
@[simp] theorem State.putLr_err (v : Word) (n : Int) : (s.putLr v n).err = s.err := rfl
@[simp] theorem State.putLr_missRd (v : Word) (n : Int) : (s.putLr v n).missRd = s.missRd := rfl
@[simp] theorem State.putLr_missWr (v : Word) (n : Int) : (s.putLr v n).missWr = s.missWr := rfl
@[simp] theorem State.putLr_idReg (v : Word) (n : Int) : (s.putLr v n).idReg = s.idReg := rfl
@[simp] theorem State.putLr_now (v : Word) (n : Int) : (s.putLr v n).now = s.now := rfl
@[simp] theorem State.putLr_buf (v : Word) (n : Int) : (s.putLr v n).buf = s.buf := rfl
@[simp] theorem State.putLr_result (v : Word) (n : Int) : (s.putLr v n).result = s.result := rfl
@[simp] theorem State.putLr_inbox (v : Word) (n : Int) : (s.putLr v n).inbox = s.inbox := rfl

/-! ### putMr -/

@[simp] theorem State.putMr_lrv (v : Word) : (s.putMr v).lrv = s.lrv := rfl
@[simp] theorem State.putMr_base (v : Word) : (s.putMr v).base = s.base := rfl
@[simp] theorem State.putMr_mr (v : Word) : (s.putMr v).mr = v := rfl
@[simp] theorem State.putMr_en (v : Word) : (s.putMr v).en = s.en := rfl
@[simp] theorem State.putMr_imsc (v : Word) : (s.putMr v).imsc = s.imsc := rfl
@[simp] theorem State.putMr_irq (v : Word) : (s.putMr v).irq = s.irq := rfl
@[simp] theorem State.putMr_err (v : Word) : (s.putMr v).err = s.err := rfl
@[simp] theorem State.putMr_missRd (v : Word) : (s.putMr v).missRd = s.missRd := rfl
@[simp] theorem State.putMr_missWr (v : Word) : (s.putMr v).missWr = s.missWr := rfl
@[simp] theorem State.putMr_idReg (v : Word) : (s.putMr v).idReg = s.idReg := rfl
@[simp] theorem State.putMr_now (v : Word) : (s.putMr v).now = s.now := rfl
@[simp] theorem State.putMr_buf (v : Word) : (s.putMr v).buf = s.buf := rfl
@[simp] theorem State.putMr_result (v : Word) : (s.putMr v).result = s.result := rfl
@[simp] theorem State.putMr_inbox (v : Word) : (s.putMr v).inbox = s.inbox := rfl

/-! ### orEn -/

@[simp] theorem State.orEn_lrv (b : Bool) : (s.orEn b).lrv = s.lrv := rfl
@[simp] theorem State.orEn_base (b : Bool) : (s.orEn b).base = s.base := rfl
@[simp] theorem State.orEn_mr (b : Bool) : (s.orEn b).mr = s.mr := rfl
@[simp] theorem State.orEn_en (b : Bool) : (s.orEn b).en = (s.en || b) := rfl
@[simp] theorem State.orEn_imsc (b : Bool) : (s.orEn b).imsc = s.imsc := rfl
@[simp] theorem State.orEn_irq (b : Bool) : (s.orEn b).irq = s.irq := rfl
@[simp] theorem State.orEn_err (b : Bool) : (s.orEn b).err = s.err := rfl
@[simp] theorem State.orEn_missRd (b : Bool) : (s.orEn b).missRd = s.missRd := rfl
@[simp] theorem State.orEn_missWr (b : Bool) : (s.orEn b).missWr = s.missWr := rfl
@[simp] theorem State.orEn_idReg (b : Bool) : (s.orEn b).idReg = s.idReg := rfl
@[simp] theorem State.orEn_now (b : Bool) : (s.orEn b).now = s.now := rfl
@[simp] theorem State.orEn_buf (b : Bool) : (s.orEn b).buf = s.buf := rfl
@[simp] theorem State.orEn_result (b : Bool) : (s.orEn b).result = s.result := rfl
@[simp] theorem State.orEn_inbox (b : Bool) : (s.orEn b).inbox = s.inbox := rfl

/-! ### putImsc -/

@[simp] theorem State.putImsc_lrv (v : Word) : (s.putImsc v).lrv = s.lrv := rfl
@[simp] theorem State.putImsc_base (v : Word) : (s.putImsc v).base = s.base := rfl
@[simp] theorem State.putImsc_mr (v : Word) : (s.putImsc v).mr = s.mr := rfl
@[simp] theorem State.putImsc_en (v : Word) : (s.putImsc v).en = s.en := rfl
@[simp] theorem State.putImsc_imsc (v : Word) : (s.putImsc v).imsc = v := rfl
@[simp] theorem State.putImsc_irq (v : Word) : (s.putImsc v).irq = s.irq := rfl
@[simp] theorem State.putImsc_err (v : Word) : (s.putImsc v).err = s.err := rfl
@[simp] theorem State.putImsc_missRd (v : Word) : (s.putImsc v).missRd = s.missRd := rfl
@[simp] theorem State.putImsc_missWr (v : Word) : (s.putImsc v).missWr = s.missWr := rfl
@[simp] theorem State.putImsc_idReg (v : Word) : (s.putImsc v).idReg = s.idReg := rfl
@[simp] theorem State.putImsc_now (v : Word) : (s.putImsc v).now = s.now := rfl
@[simp] theorem State.putImsc_buf (v : Word) : (s.putImsc v).buf = s.buf := rfl
@[simp] theorem State.putImsc_result (v : Word) : (s.putImsc v).result = s.result := rfl
@[simp] theorem State.putImsc_inbox (v : Word) : (s.putImsc v).inbox = s.inbox := rfl

/-! ### putIrq -/

@[simp] theorem State.putIrq_lrv (b : Bool) : (s.putIrq b).lrv = s.lrv := rfl
@[simp] theorem State.putIrq_base (b : Bool) : (s.putIrq b).base = s.base := rfl
@[simp] theorem State.putIrq_mr (b : Bool) : (s.putIrq b).mr = s.mr := rfl
@[simp] theorem State.putIrq_en (b : Bool) : (s.putIrq b).en = s.en := rfl
@[simp] theorem State.putIrq_imsc (b : Bool) : (s.putIrq b).imsc = s.imsc := rfl
@[simp] theorem State.putIrq_irq (b : Bool) : (s.putIrq b).irq = b := rfl
@[simp] theorem State.putIrq_err (b : Bool) : (s.putIrq b).err = s.err := rfl
@[simp] theorem State.putIrq_missRd (b : Bool) : (s.putIrq b).missRd = s.missRd := rfl
@[simp] theorem State.putIrq_missWr (b : Bool) : (s.putIrq b).missWr = s.missWr := rfl
@[simp] theorem State.putIrq_idReg (b : Bool) : (s.putIrq b).idReg = s.idReg := rfl
@[simp] theorem State.putIrq_now (b : Bool) : (s.putIrq b).now = s.now := rfl
@[simp] theorem State.putIrq_buf (b : Bool) : (s.putIrq b).buf = s.buf := rfl
@[simp] theorem State.putIrq_result (b : Bool) : (s.putIrq b).result = s.result := rfl
@[simp] theorem State.putIrq_inbox (b : Bool) : (s.putIrq b).inbox = s.inbox := rfl

/-! ### writeImsc -/

@[simp] theorem State.writeImsc_lrv (m : Word → Word → Bool) (v : Word) (n : Int) : (s.writeImsc m v n).lrv = s.lrv := rfl
@[simp] theorem State.writeImsc_base (m : Word → Word → Bool) (v : Word) (n : Int) : (s.writeImsc m v n).base = s.base := rfl
@[simp] theorem State.writeImsc_mr (m : Word → Word → Bool) (v : Word) (n : Int) : (s.writeImsc m v n).mr = s.mr := rfl
@[simp] theorem State.writeImsc_en (m : Word → Word → Bool) (v : Word) (n : Int) : (s.writeImsc m v n).en = s.en := rfl
@[simp] theorem State.writeImsc_imsc (m : Word → Word → Bool) (v : Word) (n : Int) : (s.writeImsc m v n).imsc = v := rfl
@[simp] theorem State.writeImsc_irq (m : Word → Word → Bool) (v : Word) (n : Int) : (s.writeImsc m v n).irq = s.lineLevel m v n := rfl
@[simp] theorem State.writeImsc_err (m : Word → Word → Bool) (v : Word) (n : Int) : (s.writeImsc m v n).err = s.err := rfl
@[simp] theorem State.writeImsc_missRd (m : Word → Word → Bool) (v : Word) (n : Int) : (s.writeImsc m v n).missRd = s.missRd := rfl
@[simp] theorem State.writeImsc_missWr (m : Word → Word → Bool) (v : Word) (n : Int) : (s.writeImsc m v n).missWr = s.missWr := rfl
@[simp] theorem State.writeImsc_idReg (m : Word → Word → Bool) (v : Word) (n : Int) : (s.writeImsc m v n).idReg = s.idReg := rfl
@[simp] theorem State.writeImsc_now (m : Word → Word → Bool) (v : Word) (n : Int) : (s.writeImsc m v n).now = s.now := rfl
@[simp] theorem State.writeImsc_buf (m : Word → Word → Bool) (v : Word) (n : Int) : (s.writeImsc m v n).buf = s.buf := rfl
@[simp] theorem State.writeImsc_result (m : Word → Word → Bool) (v : Word) (n : Int) : (s.writeImsc m v n).result = none := rfl
@[simp] theorem State.writeImsc_inbox (m : Word → Word → Bool) (v : Word) (n : Int) : (s.writeImsc m v n).inbox = s.inbox := rfl

/-! ### accept -/

@[simp] theorem State.accept_lrv (d : Delivery) (rest : List Delivery) : (s.accept d rest).lrv = s.lrv := rfl
@[simp] theorem State.accept_base (d : Delivery) (rest : List Delivery) : (s.accept d rest).base = s.base := rfl
@[simp] theorem State.accept_mr (d : Delivery) (rest : List Delivery) : (s.accept d rest).mr = s.mr := rfl
@[simp] theorem State.accept_en (d : Delivery) (rest : List Delivery) : (s.accept d rest).en = s.en := rfl
@[simp] theorem State.accept_imsc (d : Delivery) (rest : List Delivery) : (s.accept d rest).imsc = s.imsc := rfl
@[simp] theorem State.accept_irq (d : Delivery) (rest : List Delivery) : (s.accept d rest).irq = s.irq := rfl
@[simp] theorem State.accept_err (d : Delivery) (rest : List Delivery) : (s.accept d rest).err = s.err := rfl
@[simp] theorem State.accept_missRd (d : Delivery) (rest : List Delivery) : (s.accept d rest).missRd = s.missRd := rfl
@[simp] theorem State.accept_missWr (d : Delivery) (rest : List Delivery) : (s.accept d rest).missWr = s.missWr := rfl
@[simp] theorem State.accept_idReg (d : Delivery) (rest : List Delivery) : (s.accept d rest).idReg = s.idReg := rfl
@[simp] theorem State.accept_now (d : Delivery) (rest : List Delivery) : (s.accept d rest).now = d.now := rfl
@[simp] theorem State.accept_buf (d : Delivery) (rest : List Delivery) : (s.accept d rest).buf = d.txn.buffer := rfl
@[simp] theorem State.accept_result (d : Delivery) (rest : List Delivery) : (s.accept d rest).result = s.result := rfl
@[simp] theorem State.accept_inbox (d : Delivery) (rest : List Delivery) : (s.accept d rest).inbox = rest := rfl

/-! ### issue -/

@[simp] theorem State.issue_lrv (d : Delivery) : (s.issue d).lrv = s.lrv := rfl
@[simp] theorem State.issue_base (d : Delivery) : (s.issue d).base = s.base := rfl
@[simp] theorem State.issue_mr (d : Delivery) : (s.issue d).mr = s.mr := rfl
@[simp] theorem State.issue_en (d : Delivery) : (s.issue d).en = s.en := rfl
@[simp] theorem State.issue_imsc (d : Delivery) : (s.issue d).imsc = s.imsc := rfl
@[simp] theorem State.issue_irq (d : Delivery) : (s.issue d).irq = s.irq := rfl
@[simp] theorem State.issue_err (d : Delivery) : (s.issue d).err = s.err := rfl
@[simp] theorem State.issue_missRd (d : Delivery) : (s.issue d).missRd = s.missRd := rfl
@[simp] theorem State.issue_missWr (d : Delivery) : (s.issue d).missWr = s.missWr := rfl
@[simp] theorem State.issue_idReg (d : Delivery) : (s.issue d).idReg = s.idReg := rfl
@[simp] theorem State.issue_now (d : Delivery) : (s.issue d).now = s.now := rfl
@[simp] theorem State.issue_buf (d : Delivery) : (s.issue d).buf = s.buf := rfl
@[simp] theorem State.issue_result (d : Delivery) : (s.issue d).result = s.result := rfl
@[simp] theorem State.issue_inbox (d : Delivery) : (s.issue d).inbox = d :: s.inbox := rfl

/-! ### raiseInvalid -/

@[simp] theorem State.raiseInvalid_read (c : Cause) : s.raiseInvalid .read c = s.countRead.noData := rfl
@[simp] theorem State.raiseInvalid_write (c : Cause) : s.raiseInvalid .write c = s.countWrite.finishWrite := rfl
@[simp] theorem State.raiseInvalid_lrv (k : Kind) (c : Cause) : (s.raiseInvalid k c).lrv = s.lrv := by cases k <;> rfl
@[simp] theorem State.raiseInvalid_base (k : Kind) (c : Cause) : (s.raiseInvalid k c).base = s.base := by cases k <;> rfl
@[simp] theorem State.raiseInvalid_mr (k : Kind) (c : Cause) : (s.raiseInvalid k c).mr = s.mr := by cases k <;> rfl
@[simp] theorem State.raiseInvalid_en (k : Kind) (c : Cause) : (s.raiseInvalid k c).en = s.en := by cases k <;> rfl
@[simp] theorem State.raiseInvalid_imsc (k : Kind) (c : Cause) : (s.raiseInvalid k c).imsc = s.imsc := by cases k <;> rfl
@[simp] theorem State.raiseInvalid_irq (k : Kind) (c : Cause) : (s.raiseInvalid k c).irq = s.irq := by cases k <;> rfl
@[simp] theorem State.raiseInvalid_err (k : Kind) (c : Cause) : (s.raiseInvalid k c).err = s.err + 1 := by cases k <;> rfl
@[simp] theorem State.raiseInvalid_idReg (k : Kind) (c : Cause) : (s.raiseInvalid k c).idReg = s.idReg := by cases k <;> rfl
@[simp] theorem State.raiseInvalid_now (k : Kind) (c : Cause) : (s.raiseInvalid k c).now = s.now := by cases k <;> rfl
@[simp] theorem State.raiseInvalid_buf (k : Kind) (c : Cause) : (s.raiseInvalid k c).buf = s.buf := by cases k <;> rfl
@[simp] theorem State.raiseInvalid_inbox (k : Kind) (c : Cause) : (s.raiseInvalid k c).inbox = s.inbox := by cases k <;> rfl

/-- The two direction counters after an Invalid Access: the one of its kind is one higher. -/
theorem State.raiseInvalid_counts (k : Kind) (c : Cause) :
    (s.raiseInvalid k c).missRd = s.missRd + (if k = .read then 1 else 0) ∧
      (s.raiseInvalid k c).missWr = s.missWr + (if k = .write then 1 else 0) := by
  cases k <;> exact ⟨rfl, rfl⟩

/-! ### The derived values depend on the components their rules name -/

variable {s}

theorem State.counter_congr {t : State} (hl : t.lrv = s.lrv) (hb : t.base = s.base) (n : Int) :
    t.counter n = s.counter n := by
  simp only [State.counter, hl, hb]

theorem State.matched_congr {t : State} (hl : t.lrv = s.lrv) (hb : t.base = s.base) (hm : t.mr = s.mr)
    (m : Word → Word → Bool) (n : Int) : t.matched m n = s.matched m n := by
  simp only [State.matched, State.counter_congr hl hb, hm]

theorem State.risv_congr {t : State} (hl : t.lrv = s.lrv) (hb : t.base = s.base) (hm : t.mr = s.mr)
    (m : Word → Word → Bool) (n : Int) : t.risv m n = s.risv m n := by
  simp only [State.risv, State.matched_congr hl hb hm]

theorem State.misv_congr {t : State} (hl : t.lrv = s.lrv) (hb : t.base = s.base) (hm : t.mr = s.mr)
    (hi : t.imsc = s.imsc) (m : Word → Word → Bool) (n : Int) : t.misv m n = s.misv m n := by
  simp only [State.misv, State.risv_congr hl hb hm, hi]

end Sys2Proof.Machine
end

