-- ==== Sys2Proof/Laws/Step.lean ====
section
/-! SUPPORT. What an operation and a step can do, said once: later proofs cite these and unfold neither `exec` nor `step`. -/

namespace Sys2Proof.Machine

/-- The kind of Invalid Access an operation raises is its direction (R151). -/
def kindOf (i : Instr) : Kind := if i.isWrite then .write else .read

/-- Everything an operation can do: a valid read drives data, an Invalid Access is raised with the operation's own cause, or one
of the five valid writes makes its change. -/
theorem exec_cases {i : Instr} {s t : State} (h : exec i s = .next t) :
    (i.isWrite = false ∧ i.cause = none ∧ ∃ v, t = s.driveData v) ∨
    (∃ c, i.cause = some c ∧ t = s.raiseInvalid (kindOf i) c) ∨
    (∃ v, i = .wrLr v ∧ t = (s.putLr v s.now).finishWrite) ∨
    (∃ v, i = .wrMr v ∧ t = (s.putMr v).finishWrite) ∨
    (∃ v, i = .wrRtccr v ∧ t = (s.orEn (enableBit v)).finishWrite) ∨
    (∃ v, i = .wrImsc v ∧ t = s.writeImsc Config.matchCond v s.now) ∨
    (∃ v, i = .wrIcr v ∧ t = (s.putIrq false).finishWrite) := by
  cases i <;> cases h
  case wrLr v => exact .inr (.inr (.inl ⟨v, rfl, rfl⟩))
  case wrMr v => exact .inr (.inr (.inr (.inl ⟨v, rfl, rfl⟩)))
  case wrRtccr v => exact .inr (.inr (.inr (.inr (.inl ⟨v, rfl, rfl⟩))))
  case wrImsc v => exact .inr (.inr (.inr (.inr (.inr (.inl ⟨v, rfl, rfl⟩)))))
  case wrIcr v => exact .inr (.inr (.inr (.inr (.inr (.inr ⟨v, rfl, rfl⟩)))))
  all_goals first
    | exact .inl ⟨rfl, rfl, _, rfl⟩
    | exact .inr (.inl ⟨_, rfl, rfl⟩)

/-- A step with a transaction pending runs the operation it decodes to. -/
theorem step_cons {s : State} {d : Delivery} {rest : List Delivery} (h : s.inbox = d :: rest) :
    step s = exec (decode d.txn) (s.accept d rest) := by
  simp only [step, State.fetch, h]

/-- A step is an idle one, or it accepts the first pending transaction and runs its operation. -/
theorem step_cases {s t : State} (h : step s = .next t) :
    (s.inbox = [] ∧ t = s) ∨
    (∃ d rest, s.inbox = d :: rest ∧ exec (decode d.txn) (s.accept d rest) = .next t) := by
  cases hi : s.inbox with
  | nil =>
    simp only [step, State.fetch, hi] at h
    cases h
    exact .inl ⟨rfl, rfl⟩
  | cons d rest => exact .inr ⟨d, rest, rfl, (step_cons hi).symm.trans h⟩

/-- A run of one step more than `k` is a run of `k` steps from the state after the first. -/
theorem run_succ_of_next (M : Host.Core) (k : Nat) {s t : M.State} (h : M.step s = .next t) :
    M.run (k + 1) s = M.run k t := by
  simp only [Host.Core.run, h]

/-- The same of this machine, in the model's own names. -/
theorem run_succ {s t : State} (k : Nat) (h : step s = .next t) :
    Host.Core.run Sys2Proof.core (k + 1) s = Host.Core.run Sys2Proof.core k t :=
  run_succ_of_next Sys2Proof.core k h

end Sys2Proof.Machine
end

