-- ==== Sys2Proof/Laws/Telemetry.lean ====
section
/-! SUPPORT. The order of telemetry readings, and what one reading during a step lies between. -/

namespace Sys2Proof.Machine

theorem Telemetry.Le.refl (a : Telemetry) : Telemetry.Le a a := ⟨le_rfl, le_rfl, le_rfl⟩

theorem Telemetry.Le.trans {a b c : Telemetry} (h : Telemetry.Le a b) (h' : Telemetry.Le b c) : Telemetry.Le a c :=
  ⟨h.err.trans h'.err, h.missRd.trans h'.missRd, h.missWr.trans h'.missWr⟩

/-- Before any of a step's increments a reading sees the counters as they were. -/
theorem Telemetry.MidStep.start (a b : Telemetry) : Telemetry.MidStep a b a := ⟨.inl rfl, .inl rfl, .inl rfl⟩

/-- After all of them it sees the counters as they will be. -/
theorem Telemetry.MidStep.finish (a b : Telemetry) : Telemetry.MidStep a b b := ⟨.inr rfl, .inr rfl, .inr rfl⟩

/-- A reading during a step that lowers no counter lies between the values before and after. -/
theorem Telemetry.MidStep.between {a b seen : Telemetry} (h : Telemetry.Le a b) (hs : Telemetry.MidStep a b seen) :
    Telemetry.Le a seen ∧ Telemetry.Le seen b := by
  obtain ⟨he, hr, hw⟩ := h
  obtain ⟨e, r, w⟩ := hs
  exact ⟨⟨by omega, by omega, by omega⟩, ⟨by omega, by omega, by omega⟩⟩

end Sys2Proof.Machine
end

