-- ==== Sys2Proof/Tests/Slice0.lean ====
section
/-! SUPPORT. Tests: ill-formed operations refused, the decoding of written-out keys, vectors of `95_test_vectors.md`, and one
witness for each statement that has hypotheses. -/

namespace Sys2Proof.Tests

open Sys2Proof Sys2Proof.Machine

/-! ## Well-formedness: an ill-formed term for each check -/

/-- A "wrong-width" read of 4 bytes. -/
theorem test_wf_refuses_badlen_read : Instr.wf (.rdBadlen 0x000 4) = false := by decide
/-- A "wrong-width" write of 4 bytes. -/
theorem test_wf_refuses_badlen_write : Instr.wf (.wrBadlen 0x000 [1, 2, 3, 4]) = false := by decide
/-- An "unmapped" read at the offset of `IMSC`. -/
theorem test_wf_refuses_mapped_read : Instr.wf (.rdUnmapped 0x00C) = false := by decide
/-- An "unmapped" write at the offset of `ID7`. -/
theorem test_wf_refuses_mapped_write : Instr.wf (.wrUnmapped 0xFFC 1) = false := by decide
theorem test_wf_accepts : Instr.wf (.rdBadlen 0x7777 3) = true ∧ Instr.wf (.wrUnmapped 0x10000 5) = true := by decide

/-! ## Decoding: the 13-bit key of every register row, bit 12 the direction, bits 11:0 the offset (R60, R65) -/

theorem test_decode_counter_family :
    decodeTableWord 16 0b0000000000000 = some .rdLr ∧
    decodeTableWord 16 0b1000000000000 = some (.wrLr 0) ∧
    decodeTableWord 16 0b0000000000100 = some .rdMr ∧
    decodeTableWord 16 0b1000000000100 = some (.wrMr 0) ∧
    decodeTableWord 16 0b0000000001000 = some .rdRtccr ∧
    decodeTableWord 16 0b1000000001000 = some (.wrRtccr 0) := by decide

theorem test_decode_interrupt_family :
    decodeTableWord 16 0b0000000001100 = some .rdImsc ∧
    decodeTableWord 16 0b1000000001100 = some (.wrImsc 0) ∧
    decodeTableWord 16 0b0000000010000 = some .rdRis ∧
    decodeTableWord 16 0b1000000010000 = some (.wrRis 0) ∧
    decodeTableWord 16 0b0000000010100 = some .rdMis ∧
    decodeTableWord 16 0b1000000010100 = some (.wrMis 0) ∧
    decodeTableWord 16 0b0000000011000 = some .rdIcr ∧
    decodeTableWord 16 0b1000000011000 = some (.wrIcr 0) := by decide

theorem test_decode_id_reads :
    decodeTableWord 16 0b0111111100000 = some .rdId0 ∧
    decodeTableWord 16 0b0111111100100 = some .rdId1 ∧
    decodeTableWord 16 0b0111111101000 = some .rdId2 ∧
    decodeTableWord 16 0b0111111101100 = some .rdId3 ∧
    decodeTableWord 16 0b0111111110000 = some .rdId4 ∧
    decodeTableWord 16 0b0111111110100 = some .rdId5 ∧
    decodeTableWord 16 0b0111111111000 = some .rdId6 ∧
    decodeTableWord 16 0b0111111111100 = some .rdId7 := by decide

theorem test_decode_id_writes :
    decodeTableWord 16 0b1111111100000 = some (.wrId0 0) ∧
    decodeTableWord 16 0b1111111100100 = some (.wrId1 0) ∧
    decodeTableWord 16 0b1111111101000 = some (.wrId2 0) ∧
    decodeTableWord 16 0b1111111101100 = some (.wrId3 0) ∧
    decodeTableWord 16 0b1111111110000 = some (.wrId4 0) ∧
    decodeTableWord 16 0b1111111110100 = some (.wrId5 0) ∧
    decodeTableWord 16 0b1111111111000 = some (.wrId6 0) ∧
    decodeTableWord 16 0b1111111111100 = some (.wrId7 0) := by decide

/-- The four operations without a register: VA3, VA11, VA12, VA19 (offset `0x10000` is not `LR`), VD12, VD13; R47. -/
theorem test_decode_adapter_family :
    decode (.read 0x000 [1, 2, 3]) = .rdBadlen 0x000 3 ∧
    decode (.write 0x7777 [1, 2, 3]) = .wrBadlen 0x7777 [1, 2, 3] ∧
    decode (.read 0x002 [0, 0, 0, 0]) = .rdUnmapped 0x002 ∧
    decode (.write 0x10000 [5, 0, 0, 0]) = .wrUnmapped 0x10000 5 ∧
    decode (.read 0xFE1 [0, 0, 0, 0]) = .rdUnmapped 0xFE1 ∧
    decode (.read 0xFDC [0, 0, 0, 0]) = .rdUnmapped 0xFDC := by decide

/-- Written data in the spec's byte order: P1 steps 1 and 4. -/
theorem test_decode_payload :
    decode (.write 0x000 [0x00, 0x10, 0x5E, 0x5F]) = .wrLr 0x5F5E1000 ∧
    decode (.write 0x004 [0xEF, 0xBE, 0xAD, 0xDE]) = .wrMr 0xDEADBEEF := by decide

/-- Table words that are no key, and the keyless `MMIOx` word (log entry 17). -/
theorem test_table_words :
    decodeTableWord 16 0x2000 = none ∧ decodeTableWord 16 0x001C = some (.rdUnmapped 0x01C) ∧
    decodeTableWord 8 0 = some (.rdBadlen 0 0) := by decide

/-- The boundaries of the window's ranges (R46): the last mapped and first unmapped offsets, on both sides. -/
theorem test_lookup_boundaries :
    lookup 0x018 = some .icr ∧ lookup 0x01B = none ∧ lookup 0x01C = none ∧ lookup 0xFDC = none ∧
    lookup 0xFE0 = some (.id 0) ∧ lookup 0xFE2 = none ∧ lookup 0xFFC = some (.id 7) ∧ lookup 0xFFD = none ∧
    lookup 0x1000 = none := by decide

/-! ## Vectors -/

/-- The common state of VC1 to VC12 (`LRV = 0x64, BASE = 1000, MR = 0x69`), with a buffer and the default identification
bytes, at `now`. -/
def st (now : Int) : State where
  lrv := 0x64
  base := 1000
  mr := 0x69
  en := false
  imsc := 0
  irq := false
  err := 0
  missRd := 0
  missWr := 0
  idReg := Config.defaultIdBytes
  now := now
  buf := [0x11, 0x22, 0x33, 0x44]
  result := none
  inbox := []

/-- Read something off the state an operation or a step answers. -/
def seen {α : Type} (f : State → α) : Host.Outcome State Fault Refusal → Option α
  | .next t => some (f t)
  | .fault _ => none
  | .refused _ => none

/-- The three counters, as the vectors list them. -/
def counters (s : State) : Nat × Nat × Nat := (s.err, s.missRd, s.missWr)

/-- VB3. -/
theorem test_rdLr_counts : seen State.buf (exec .rdLr (st 1007)) = some [0x6B, 0, 0, 0] := by decide
/-- VB4: the counter wraps. -/
theorem test_rdLr_wraps :
    seen State.result (exec .rdLr { st 11 with lrv := 0xFFFFFFFF, base := 10 }) = some (some (.data [0, 0, 0, 0])) := by decide
/-- VB7: a clock that went back. -/
theorem test_counter_backwards : ({ st 0 with lrv := 1, base := 9 } : State).counter 7 = 0xFFFFFFFF := by decide
/-- VB8: `2^32` seconds later. -/
theorem test_counter_full_turn : ({ st 0 with lrv := 0, base := 0 } : State).counter 4294967296 = 0 := by decide
/-- VB11. -/
theorem test_wrLr_loads :
    seen (fun t => (t.lrv, t.base, t.counter 1010)) (exec (.wrLr 0x67) (st 1003)) = some (0x67, 1003, 0x6E) := by decide
/-- R119: a write of `LR` leaves an asserted line. -/
theorem test_wrLr_line : seen State.irq (exec (.wrLr 0) { st 0 with irq := true }) = some true := by decide
/-- VB13. -/
theorem test_rdMr_bytes :
    seen State.buf (exec .rdMr { st 0 with mr := 0xDEADBEEF }) = some [0xEF, 0xBE, 0xAD, 0xDE] := by decide
/-- VB14: the write of `MR` does not move the line. -/
theorem test_wrMr_line : seen (fun t => (t.mr, t.irq)) (exec (.wrMr 0x67) { st 1003 with imsc := 1 }) = some (0x67, false) := by
  decide
/-- VB16 and VB21. -/
theorem test_rdRtccr :
    seen State.buf (exec .rdRtccr (st 0)) = some [0, 0, 0, 0] ∧
    seen State.buf (exec .rdRtccr { st 0 with en := true }) = some [1, 0, 0, 0] := by decide
/-- VB17, VB19, VB20, VB21. -/
theorem test_wrRtccr :
    seen State.en (exec (.wrRtccr 0) (st 0)) = some false ∧ seen State.en (exec (.wrRtccr 0xFFFFFFFE) (st 0)) = some false ∧
    seen State.en (exec (.wrRtccr 3) (st 0)) = some true ∧
    seen State.en (exec (.wrRtccr 0) { st 0 with en := true }) = some true := by decide
/-- VC20. -/
theorem test_rdImsc :
    seen State.buf (exec .rdImsc { st 0 with imsc := 0x12345678 }) = some [0x78, 0x56, 0x34, 0x12] := by decide
/-- VC8 to VC11 [M], on the operation with the default match condition. -/
theorem test_writeImsc_default :
    ((st 0).writeImsc Config.defaultMatch 1 1005).irq = true ∧ ((st 0).writeImsc Config.defaultMatch 1 1006).irq = false ∧
    ((st 0).writeImsc Config.defaultMatch 2 1005).irq = false ∧ ((st 0).writeImsc Config.defaultMatch 2 1005).imsc = 2 ∧
    ({ st 0 with irq := true, imsc := 1 }.writeImsc Config.defaultMatch 0 1005).irq = false := by decide
/-- VC1 to VC3 [M], on the derived value with the default match condition. -/
theorem test_risv_default :
    (st 0).risv Config.defaultMatch 1004 = 0 ∧ (st 0).risv Config.defaultMatch 1005 = 1 ∧
    (st 0).risv Config.defaultMatch 1006 = 0 := by decide
/-- VC4 to VC7 [M]. -/
theorem test_misv_default :
    ({ st 0 with imsc := 1 } : State).misv Config.defaultMatch 1005 = 1 ∧ (st 0).misv Config.defaultMatch 1005 = 0 ∧
    ({ st 0 with imsc := 2 } : State).misv Config.defaultMatch 1005 = 0 ∧
    ({ st 0 with imsc := 0xFFFFFFFF } : State).misv Config.defaultMatch 1005 = 1 := by decide
/-- VC24 and S3: `RD.RIS`, `RD.MIS` and `WR.IMSC` leave the counters, and the mask is stored, under every match condition. -/
theorem test_match_operations_complete :
    seen counters (exec .rdRis (st 1005)) = some (0, 0, 0) ∧ seen State.irq (exec .rdMis (st 1005)) = some false ∧
    seen State.imsc (exec (.wrImsc 0x2) (st 1005)) = some 2 := by decide
/-- VC13, VC14. -/
theorem test_wrIcr :
    seen State.irq (exec (.wrIcr 0) { st 0 with irq := true }) = some false ∧
    seen State.irq (exec (.wrIcr 0xFFFFFFFF) { st 0 with irq := true }) = some false := by decide
/-- VC17: the buffer keeps what it held, the line stays. -/
theorem test_rdIcr :
    seen (fun t => (t.buf, t.result, counters t, t.irq)) (exec .rdIcr { st 0 with irq := true }) =
      some ([0x11, 0x22, 0x33, 0x44], some .noData, (1, 1, 0), true) := by decide
/-- VC18. -/
theorem test_wrRis : seen counters (exec (.wrRis 1) (st 0)) = some (1, 0, 1) := by decide
/-- VC19. -/
theorem test_wrMis :
    seen (fun t => (t.imsc, counters t)) (exec (.wrMis 0) { st 0 with imsc := 1 }) = some (1, (1, 0, 1)) := by decide
/-- VD1 to VD8 [I]. -/
theorem test_id_reads :
    seen State.buf (exec .rdId0 (st 0)) = some [0x31, 0, 0, 0] ∧ seen State.buf (exec .rdId1 (st 0)) = some [0x10, 0, 0, 0] ∧
    seen State.buf (exec .rdId2 (st 0)) = some [0x14, 0, 0, 0] ∧ seen State.buf (exec .rdId3 (st 0)) = some [0, 0, 0, 0] ∧
    seen State.buf (exec .rdId4 (st 0)) = some [0x0D, 0, 0, 0] ∧ seen State.buf (exec .rdId5 (st 0)) = some [0xF0, 0, 0, 0] ∧
    seen State.buf (exec .rdId6 (st 0)) = some [0x05, 0, 0, 0] ∧ seen State.buf (exec .rdId7 (st 0)) = some [0xB1, 0, 0, 0] := by
  decide
/-- VD10. -/
theorem test_id_writes :
    ∀ i ∈ [Instr.wrId0 9, .wrId1 9, .wrId2 9, .wrId3 9, .wrId4 9, .wrId5 9, .wrId6 9, .wrId7 9],
      seen (fun t => (t.idReg, counters t)) (exec i (st 0)) = some (Config.defaultIdBytes, (1, 0, 1)) := by decide

/-- The state with one transaction pending at `now`. -/
def withTxn (s : State) (now : Int) (t : Txn) : State := { s with inbox := [⟨now, t⟩] }

/-- VA2: the caller's two bytes stay. -/
theorem test_step_narrow_read :
    seen (fun t => (t.buf, t.result, counters t)) (step (withTxn (st 0) 5 (.read 0x004 [0xAA, 0xBB]))) =
      some ([0xAA, 0xBB], some .noData, (1, 1, 0)) := by decide
/-- VA8: a narrow write of `ICR` does not clear the line. -/
theorem test_step_narrow_write :
    seen (fun t => (t.irq, counters t)) (step (withTxn { st 0 with irq := true } 5 (.write 0x018 [0, 0]))) =
      some (true, (1, 0, 1)) := by decide
/-- VA16: the first offset past the window. -/
theorem test_step_past_window :
    seen (fun t => (t.result, counters t)) (step (withTxn (st 0) 5 (.read 0x1000 [0, 0, 0, 0]))) =
      some (some .noData, (1, 1, 0)) := by decide
/-- VA19: no truncation of the offset. -/
theorem test_step_no_alias :
    seen (fun t => (t.lrv, t.base, counters t)) (step (withTxn (st 0) 99 (.write 0x10000 [5, 0, 0, 0]))) =
      some (0x64, 1000, (1, 0, 1)) := by decide
/-- VB1, through the step: `BASE` is the delivery's clock reading. -/
theorem test_step_wrLr :
    seen (fun t => (t.lrv, t.base, t.inbox)) (step (withTxn (st 0) 5000 (.write 0x000 [0x00, 0x10, 0x5E, 0x5F]))) =
      some (0x5F5E1000, 5000, []) := by decide
/-- VB15 and VC23: right after reset, through `withFetchWord`. -/
theorem test_reset_reads :
    seen State.buf (step (State.reset.withFetchWord 16 0x0004)) = some [0, 0, 0, 0] ∧
    seen State.buf (step (State.reset.withFetchWord 16 0x000C)) = some [0, 0, 0, 0] := by decide
/-- A word with no key runs as the first operation after reset. -/
theorem test_reset_badlen : seen counters (step (State.reset.withFetchWord 8 0)) = some (1, 1, 0) := by decide

/-! ## Witnesses: a state and operands that meet the hypotheses of each statement that has any -/

theorem test_witness_DecodeUndoesEncode : Instr.wf (.wrBadlen 7 [1, 2]) = true := by decide
theorem test_witness_DecodingFollowsTheOperationMap :
    ([] : List Byte).length ≠ 4 ∧ ([1, 2, 3, 4, 5] : List Byte).length ≠ 4 ∧ ([1, 2, 3, 4] : List Byte).length = 4 ∧
    Listing.payload [1, 2, 3, 4] = 0x04030201 ∧
    0x01C ∉ [0x000, 0x004, 0x008, 0x00C, 0x010, 0x014, 0x018, 0xFE0, 0xFE4, 0xFE8, 0xFEC, 0xFF0, 0xFF4, 0xFF8, 0xFFC] := by
  decide
theorem test_witness_EveryKeySelectsTheOperationWithThatKey : 0x1FFF < 0x2000 ∧ 0x2000 ≤ 0x2000 := by decide
theorem test_witness_StepRunsTheDecodedOperation :
    (withTxn (st 0) 3 (.read 0x000 [0, 0, 0, 0])).inbox = ⟨3, .read 0x000 [0, 0, 0, 0]⟩ :: [] := rfl
theorem test_witness_StepIsTheSpecsListing :
    (withTxn (st 0) 3 (.write 0x00C [1, 0, 0, 0])).inbox = ⟨3, .write 0x00C [1, 0, 0, 0]⟩ :: [] := rfl
theorem test_witness_IdleStepsAndPlacedWords :
    (st 0).inbox = [] ∧ decodeTableWord 16 0x1FFC = some (.wrId7 0) := by decide
theorem test_witness_WriteRtccrOnlySetsTheEnableBit : (3 : Word).toNat % 2 = 1 ∧ (0xFFFFFFFE : Word).toNat % 2 = 0 := by decide
theorem test_witness_CounterAdvancesAndWraps : ({ st 0 with lrv := 0xFFFFFFFF } : State).counter 1000 = 0xFFFFFFFF := by decide
theorem test_witness_LoadSeedsTheCounter : (0x67 : Word) = (st 1003).counter (st 1003).now := by decide
theorem test_witness_EnableBitGatesNothing :
    exec (.wrMr 5) (st 0) = .next ((st 0).putMr 5).finishWrite ∧ Instr.wrMr 5 ≠ .rdRtccr ∧
    exec .rdRtccr (st 0) = .next ((st 0).driveData 0) := ⟨rfl, by decide, rfl⟩
theorem test_witness_OnlyFiveOperationsReadTheClock :
    Instr.rdMr ≠ .rdLr ∧ (∀ v, Instr.rdMr ≠ .wrLr v) ∧ Instr.rdMr ≠ .rdRis ∧ Instr.rdMr ≠ .rdMis ∧
    (∀ v, Instr.rdMr ≠ .wrImsc v) ∧ exec .rdMr (st 0) = .next ((st 0).driveData 0x69) :=
  ⟨by decide, nofun, by decide, by decide, nofun, rfl⟩
theorem test_witness_RawStatusIsTheMatchCondition :
    ({ st 0 with en := true } : State).counter 1005 = (st 0).counter 1005 ∧ ({ st 0 with en := true } : State).mr = (st 0).mr := by
  decide
theorem test_witness_WriteImscMakesTheLineAgreeWithMis : (2 : Word).getLsbD 0 = false := by decide
theorem test_witness_ClearLeavesTheStatusAndTheLineCanRise :
    Config.defaultMatch ((st 0).counter 1005) (st 0).mr = true ∧ (1 : Word).getLsbD 0 = true := by decide
theorem test_witness_LineMovesOnlyAtImscAndIcrWrites :
    seen State.irq (step (withTxn { st 0 with irq := true } 3 (.write 0x018 [0, 0, 0, 0]))) = some false ∧
    (withTxn { st 0 with irq := true } 3 (.write 0x018 [0, 0, 0, 0])).irq = true := by decide
theorem test_witness_LineStaysLowWithoutAMaskWrite :
    (withTxn (st 0) 3 (.read 0x010 [0, 0, 0, 0])).irq = false ∧
    (∀ d ∈ (withTxn (st 0) 3 (.read 0x010 [0, 0, 0, 0])).inbox.take 1, ∀ v, decode d.txn ≠ .wrImsc v) ∧
    (∃ t, Host.Core.run Sys2Proof.core 1 (withTxn (st 0) 3 (.read 0x010 [0, 0, 0, 0])) = .next t) := by
  refine ⟨rfl, ?_, _, rfl⟩
  intro d hd v
  obtain rfl : d = ⟨3, .read 0x010 [0, 0, 0, 0]⟩ := by simpa [withTxn] using hd
  exact nofun
theorem test_witness_WrongWidthsOnlyCount : ([0xAA] : List Byte).length ≠ 4 ∧ ([] : List Byte).length ≠ 4 := by decide
theorem test_witness_InvalidAccessesHaveExactlyTheListedCauses :
    Instr.cause .rdMr = none ∧ Instr.isWrite .rdMr = false ∧ exec .rdMr (st 0) = .next ((st 0).driveData 0x69) ∧
    Instr.cause .rdIcr ≠ none ∧ Instr.isWrite .rdIcr = false ∧ exec .rdIcr (st 0) = .next (st 0).countRead.noData ∧
    Instr.cause (.wrId3 1) ≠ none ∧ Instr.isWrite (.wrId3 1) = true ∧
    exec (.wrId3 1) (st 0) = .next (st 0).countWrite.finishWrite := by
  exact ⟨rfl, rfl, rfl, nofun, rfl, rfl, nofun, rfl, rfl⟩
theorem test_witness_ReadsChangeNoComponentButTheCounters :
    (withTxn (st 0) 3 (.read 0x018 [1, 2, 3, 4])).inbox = ⟨3, .read 0x018 [1, 2, 3, 4]⟩ :: [] ∧
    (decode (.read 0x018 [1, 2, 3, 4])).cause ≠ none ∧ (decode (.read 0x014 [1, 2, 3, 4])).cause = none := by decide
theorem test_witness_CallersBufferReachesNothing :
    ([1, 2, 3, 4] : List Byte).length = ([5, 6, 7, 8] : List Byte).length ∧
    seen State.result (step { st 0 with inbox := ⟨3, .read 0x01C [1, 2, 3, 4]⟩ :: (st 0).inbox }) = some (some .noData) ∧
    seen State.result (step { st 0 with inbox := ⟨3, .read 0x004 [1, 2, 3, 4]⟩ :: (st 0).inbox }) =
      some (some (.data [0x69, 0, 0, 0])) := by decide

/-- The reset state with the state invariant, one transaction pending. -/
theorem test_reset_identification : ∀ k : Fin 8, (withTxn State.reset 0 (.write 0x00C [1, 0, 0, 0])).idReg[k] = Config.idByte k
  | 0 | 1 | 2 | 3 | 4 | 5 | 6 | 7 => rfl
theorem test_witness_EveryStepKeepsTheStateInvariant :
    (withTxn State.reset 0 (.write 0x00C [1, 0, 0, 0])).Inv ∧
    ∃ t, step (withTxn State.reset 0 (.write 0x00C [1, 0, 0, 0])) = .next t :=
  ⟨⟨rfl, fun _ => rfl, test_reset_identification⟩, _, rfl⟩
theorem test_witness_CountersGrowByAtMostOneTogether :
    ∃ t, step (withTxn (st 0) 0 (.read 0x018 [0, 0, 0, 0])) = .next t := ⟨_, rfl⟩
theorem test_witness_EnableBitIsSticky :
    ({ st 0 with en := true } : State).en = true ∧
    (∃ t, Host.Core.run Sys2Proof.core 1 (withTxn { st 0 with en := true } 0 (.write 0x008 [0, 0, 0, 0])) = .next t) ∧
    (∃ t, step (withTxn (st 0) 0 (.write 0x008 [3, 0, 0, 0])) = .next t ∧
      t.en ≠ (withTxn (st 0) 0 (.write 0x008 [3, 0, 0, 0])).en) ∧
    decode (.write 0x008 [3, 0, 0, 0]) = .wrRtccr 3 ∧ (3 : Word).getLsbD 0 = true :=
  ⟨rfl, ⟨_, rfl⟩, ⟨_, rfl, nofun⟩, by decide, by decide⟩

/-- A delivery that reads `ICR`. -/
def idleMid : Delivery := ⟨8, .read 0x018 [1, 2, 3, 4]⟩

theorem test_witness_MatchRegisterReadsBackAcrossARun :
    ([0, 0, 0, 0] : List Byte).length = 4 ∧
    ({ st 0 with inbox := [⟨5, .write 0x004 (bytesLe 7)⟩, idleMid, ⟨9, .read 0x004 [0, 0, 0, 0]⟩] } : State).inbox =
      ⟨5, .write 0x004 (bytesLe 7)⟩ :: ([idleMid] ++ ⟨9, .read 0x004 [0, 0, 0, 0]⟩ :: []) ∧
    (∀ d ∈ [idleMid], ∀ w, decode d.txn ≠ .wrMr w) := by
  refine ⟨rfl, rfl, ?_⟩
  intro d hd w
  obtain rfl := List.mem_singleton.1 hd
  exact nofun
theorem test_witness_LoadedCounterReadsBackPlusElapsed :
    ([0, 0, 0, 0] : List Byte).length = 4 ∧
    ({ st 0 with inbox := [⟨5, .write 0x000 (bytesLe 7)⟩, idleMid, ⟨9, .read 0x000 [0, 0, 0, 0]⟩] } : State).inbox =
      ⟨5, .write 0x000 (bytesLe 7)⟩ :: ([idleMid] ++ ⟨9, .read 0x000 [0, 0, 0, 0]⟩ :: []) ∧
    (∀ d ∈ [idleMid], ∀ w, decode d.txn ≠ .wrLr w) := by
  refine ⟨rfl, rfl, ?_⟩
  intro d hd w
  obtain rfl := List.mem_singleton.1 hd
  exact nofun
theorem test_witness_MonotoneClockCountsUpFromTheLoad :
    ({ st 0 with inbox := [⟨5, .write 0x000 [7, 0, 0, 0]⟩, idleMid] } : State).ClockMonotone ∧
    decode (.write 0x000 [7, 0, 0, 0]) = .wrLr 7 := by
  refine ⟨?_, by decide⟩
  simp [State.ClockMonotone, idleMid]
theorem test_witness_TelemetryDuringAStepIsBounded :
    ∃ t, step (withTxn (st 0) 0 (.read 0x018 [0, 0, 0, 0])) = .next t ∧
      Telemetry.MidStep (withTxn (st 0) 0 (.read 0x018 [0, 0, 0, 0])).telemetry t.telemetry ⟨1, 0, 0⟩ ∧
      (withTxn (st 0) 0 (.read 0x018 [0, 0, 0, 0])).err =
        (withTxn (st 0) 0 (.read 0x018 [0, 0, 0, 0])).missRd + (withTxn (st 0) 0 (.read 0x018 [0, 0, 0, 0])).missWr :=
  ⟨_, rfl, ⟨.inr rfl, .inl rfl, .inl rfl⟩, rfl⟩
theorem test_witness_InvariantHoldsWithTheLineOption :
    (withTxn State.reset 0 (.write 0x00C [1, 0, 0, 0])).Inv ∧
    ∃ t, step (withTxn State.reset 0 (.write 0x00C [1, 0, 0, 0])) = .next t ∧
      State.LineMayFollowMis Config.defaultMatch t t :=
  ⟨test_witness_EveryStepKeepsTheStateInvariant.1, _, rfl, .inl rfl⟩

/-- Two readings during one Invalid Access (a read of `ICR`): a counter seen at its new value and then at its old one is refused
(R50 (b)); the direction counter first, then both, is admitted (R50 (c)). -/
theorem test_readings_refuse_a_decrease :
    ¬ Telemetry.Readings ⟨0, 0, 0⟩ ⟨1, 1, 0⟩ [⟨1, 0, 0⟩, ⟨0, 0, 0⟩] := by
  rintro ⟨-, h, -⟩
  exact absurd h.err (by decide)
theorem test_readings_admit_either_order :
    Telemetry.Readings ⟨0, 0, 0⟩ ⟨1, 1, 0⟩ [⟨0, 1, 0⟩, ⟨1, 1, 0⟩] ∧
    Telemetry.Readings ⟨0, 0, 0⟩ ⟨1, 1, 0⟩ [⟨0, 0, 0⟩, ⟨1, 0, 0⟩, ⟨1, 1, 0⟩] := by
  refine ⟨⟨⟨?_, ?_, ?_⟩, ⟨?_, ?_, ?_⟩, trivial⟩, ⟨?_, ?_, ?_⟩, ⟨?_, ?_, ?_⟩, ⟨?_, ?_, ?_⟩, trivial⟩ <;> decide
theorem test_witness_TelemetryReadingsNeverDecrease :
    ∃ t, step (withTxn (st 0) 0 (.read 0x018 [0, 0, 0, 0])) = .next t ∧
      State.Observed (withTxn (st 0) 0 (.read 0x018 [0, 0, 0, 0])) [⟨0, 1, 0⟩, ⟨1, 1, 0⟩, ⟨1, 1, 0⟩] t :=
  ⟨_, rfl, .serve (during := [⟨0, 1, 0⟩, ⟨1, 1, 0⟩]) rfl test_readings_admit_either_order.1 (.rest _ 1)⟩
theorem test_witness_CountersOrderNothing : exec .rdIcr (st 0) = .next (st 0).countRead.noData := rfl
theorem test_witness_EachRegisterChangesOnlyByItsOwnWrite :
    seen State.lrv (step (withTxn (st 0) 9 (.write 0x000 [7, 0, 0, 0]))) = some 7 ∧
    seen State.mr (step (withTxn (st 0) 9 (.write 0x004 [7, 0, 0, 0]))) = some 7 ∧
    seen State.imsc (step (withTxn (st 0) 9 (.write 0x00C [7, 0, 0, 0]))) = some 7 ∧
    (st 0).lrv ≠ 7 ∧ (st 0).mr ≠ 7 ∧ (st 0).imsc ≠ 7 := by decide

/-- The option's second alternative is met too: the line is low, the match holds, the mask bit is set (VC12). -/
theorem test_witness_LineOptionAsserts :
    State.LineMayFollowMis Config.defaultMatch { st 1005 with imsc := 1 } { st 1005 with imsc := 1, irq := true } :=
  .inr ⟨by decide, rfl⟩
/-- Membership in the lists of the identification statements, first and last. -/
theorem test_witness_IdOperationsAreListed :
    (Instr.rdId0, (0 : Fin 8), 0x0FE0) ∈ [(Instr.rdId0, (0 : Fin 8), 0x0FE0), (.rdId1, 1, 0x0FE4), (.rdId2, 2, 0x0FE8),
      (.rdId3, 3, 0x0FEC), (.rdId4, 4, 0x0FF0), (.rdId5, 5, 0x0FF4), (.rdId6, 6, 0x0FF8), (.rdId7, 7, 0x0FFC)] ∧
    (Instr.wrId7 9, 0x1FFC) ∈ [(Instr.wrId0 9, 0x1FE0), (.wrId1 9, 0x1FE4), (.wrId2 9, 0x1FE8), (.wrId3 9, 0x1FEC),
      (.wrId4 9, 0x1FF0), (.wrId5 9, 0x1FF4), (.wrId6 9, 0x1FF8), (.wrId7 9, 0x1FFC)] := by decide

end Sys2Proof.Tests
end

section
/-! PROOFS of the family `10_state.md`. The masked status is one bit, widened to a word: the match condition and bit 0 of the
mask. -/

namespace Sys2Proof.Machine

theorem zextBit_eq_zero_or_one (b : Bool) : zextBit b = 0 ∨ zextBit b = 1 := by
  cases b
  · exact .inl rfl
  · exact .inr rfl

@[simp] theorem zextBit_eq_one_iff (b : Bool) : zextBit b = 1 ↔ b = true := by
  cases b <;> decide

/-- A widened bit masks a word down to the word's bit 0. -/
theorem zextBit_and (b : Bool) (v : Word) : zextBit b &&& v = zextBit (b && v.getLsbD 0) := by
  cases b
  case false => exact BitVec.zero_and
  case true =>
    calc 1#32 &&& v = (BitVec.ofBool (v.getLsbD 0)).setWidth 32 := by
          rw [BitVec.and_comm, BitVec.and_one_eq_setWidth_ofBool_getLsbD]
      _ = zextBit (v.getLsbD 0) := by cases v.getLsbD 0 <;> rfl

/-- The raw status is 1 exactly when the match condition holds (R20). -/
theorem State.risv_eq_one_iff (m : Word → Word → Bool) (s : State) (now : Int) :
    s.risv m now = 1 ↔ s.matched m now = true :=
  zextBit_eq_one_iff _

/-- The masked status is the match condition and bit 0 of the mask, as one widened bit (R21). -/
theorem State.misv_eq_zextBit (m : Word → Word → Bool) (s : State) (now : Int) :
    s.misv m now = zextBit (s.matched m now && s.imsc.getLsbD 0) :=
  zextBit_and _ _

end Sys2Proof.Machine

namespace Sys2Proof.Proofs

open Sys2Proof.Machine

/-- Settles O28: the masked status is one widened bit, so it is 0 or 1, and it is 1 when both of that bit's conjuncts hold. -/
theorem maskedStatusIsRawAndMaskBitZero : Obligations.MaskedStatusIsRawAndMaskBitZero := by
  intro m s now
  refine ⟨rfl, ?_, ?_⟩
  · rw [State.misv_eq_zextBit]
    exact zextBit_eq_zero_or_one _
  · rw [State.misv_eq_zextBit, State.risv_eq_one_iff, zextBit_eq_one_iff, Bool.and_eq_true]

end Sys2Proof.Proofs
end

section
/-! PROOFS of the family `30_encoding.md`. A 4-byte access decodes by its offset alone: `decodeRead` or `decodeWrite` of the register
the address map finds there. -/

namespace Sys2Proof

/-- Four bytes below 256 leave the sum of section 5.2 below `2^32`, so nothing wraps. -/
theorem Machine.toNat_le32_four (b0 b1 b2 b3 : Byte) :
    (Machine.le32 [b0, b1, b2, b3]).toNat =
      b0.toNat + 256 * b1.toNat + 65536 * b2.toNat + 16777216 * b3.toNat := by
  simp only [Machine.le32]
  bv_omega

/-- The decoder's fold over four bytes is the listing's sum. -/
theorem Machine.le32_eq_payload (b0 b1 b2 b3 : Byte) :
    Machine.le32 [b0, b1, b2, b3] = Listing.payload [b0, b1, b2, b3] := by
  rw [Listing.payload, ← Machine.toNat_le32_four, BitVec.ofNat_toNat, BitVec.setWidth_eq]

theorem mem_allRegs (r : Reg) : r ∈ allRegs := by
  cases r with
  | id k => revert k; decide
  | _ => decide

/-- The fifteen offsets of the map (R64). -/
theorem map_regOffset_allRegs :
    allRegs.map regOffset = [0x000, 0x004, 0x008, 0x00C, 0x010, 0x014, 0x018,
      0xFE0, 0xFE4, 0xFE8, 0xFEC, 0xFF0, 0xFF4, 0xFF8, 0xFFC] := rfl

/-- An offset outside the map names no register. -/
theorem lookup_eq_none_of_notMem {off : Nat} (h : off ∉ allRegs.map regOffset) : lookup off = none :=
  lookup_eq_none.2 fun r hr => h (List.mem_map.2 ⟨r, mem_allRegs r, hr⟩)

/-- R63, the width first: a read of another width does not reach the map. -/
theorem decode_read_of_length_ne (off : Nat) {out : List Byte} (h : out.length ≠ accessLen) :
    decode (.read off out) = .rdBadlen off out.length :=
  if_pos h

theorem decode_write_of_length_ne (off : Nat) {data : List Byte} (h : data.length ≠ accessLen) :
    decode (.write off data) = .wrBadlen off data :=
  if_pos h

/-- R63, the offset second: a 4-byte read is decided by the map. -/
theorem decode_read_of_length_eq (off : Nat) {out : List Byte} (h : out.length = accessLen) :
    decode (.read off out) = decodeRead off (lookup off) :=
  if_neg (not_not_intro h)

theorem decode_write_of_length_eq (off : Nat) {data : List Byte} (h : data.length = accessLen) :
    decode (.write off data) = decodeWrite off (Machine.le32 data) (lookup off) :=
  if_neg (not_not_intro h)

/-- The written value of a 4-byte write is the listing's sum. -/
theorem decode_write_four (off : Nat) (b0 b1 b2 b3 : Byte) :
    decode (.write off [b0, b1, b2, b3]) = decodeWrite off (Listing.payload [b0, b1, b2, b3]) (lookup off) := by
  rw [decode_write_of_length_eq off rfl, Machine.le32_eq_payload]

end Sys2Proof

namespace Sys2Proof.Proofs

/-- Settles O3: the width is decided first; with four bytes, each register is found at its own offset, and an offset outside the
map finds none. -/
theorem decodingFollowsTheOperationMap : Obligations.DecodingFollowsTheOperationMap := by
  refine ⟨fun off _ h => decode_read_of_length_ne off h, fun off _ h => decode_write_of_length_ne off h, ?_, ?_, ?_⟩
  · intro out h
    have read (r : Reg) : decode (.read (regOffset r) out) = decodeRead (regOffset r) (some r) := by
      rw [decode_read_of_length_eq _ h, lookup_regOffset]
    exact ⟨read .lr, read .mr, read .rtccr, read .imsc, read .ris, read .mis, read .icr,
      read (.id 0), read (.id 1), read (.id 2), read (.id 3), read (.id 4), read (.id 5), read (.id 6), read (.id 7)⟩
  · rintro b0 b1 b2 b3 _ rfl
    have write (r : Reg) : decode (.write (regOffset r) [b0, b1, b2, b3]) =
        decodeWrite (regOffset r) (Listing.payload [b0, b1, b2, b3]) (some r) := by
      rw [decode_write_four, lookup_regOffset]
    exact ⟨write .lr, write .mr, write .rtccr, write .imsc, write .ris, write .mis, write .icr,
      write (.id 0), write (.id 1), write (.id 2), write (.id 3), write (.id 4), write (.id 5), write (.id 6), write (.id 7)⟩
  · intro off h
    rw [← map_regOffset_allRegs] at h
    have unmapped : lookup off = none := lookup_eq_none_of_notMem h
    constructor
    · intro out hlen
      rw [decode_read_of_length_eq off hlen, unmapped, decodeRead]
    · intro b0 b1 b2 b3
      rw [decode_write_four, unmapped, decodeWrite]

end Sys2Proof.Proofs
end

section
/-! PROOFS of the family `40_adapter.md`. Every operation completes, keeps the pending transactions, and where it has a cause only
counts an Invalid Access of its direction. A register operation's key is its register's offset, with bit 12 set for a write. -/

namespace Sys2Proof

/-- Every register lies inside the window (R46, R64). -/
theorem regOffset_lt_windowSize (r : Reg) : regOffset r < windowSize := by
  cases r with
  | id k => simp only [regOffset, idBase, windowSize]; omega
  | _ => decide

@[simp] theorem keyOf_readOf (r : Reg) : keyOf (readOf r) = some (regOffset r) :=
  (if_pos ⟨rfl, regOffset_lt_windowSize r⟩).trans (congrArg some (Nat.zero_add _))

@[simp] theorem keyOf_writeOf (r : Reg) (v : Word) : keyOf (writeOf r v) = some (windowSize + regOffset r) :=
  if_pos ⟨Machine.bytesLe_length v, regOffset_lt_windowSize r⟩

end Sys2Proof

namespace Sys2Proof.Machine

/-- R85: no operation stops the machine, in any state. -/
theorem exec_completes (i : Instr) (s : State) : ∃ t, exec i s = .next t := by
  cases i <;> exact ⟨_, rfl⟩

/-- No operation touches the pending transactions. -/
theorem exec_inbox {i : Instr} {s t : State} (h : exec i s = .next t) : t.inbox = s.inbox := by
  obtain ⟨-, -, v, rfl⟩ | ⟨c, -, rfl⟩ | ⟨v, -, rfl⟩ | ⟨v, -, rfl⟩ | ⟨v, -, rfl⟩ | ⟨v, -, rfl⟩ | ⟨v, -, rfl⟩ := exec_cases h
  case inr.inl => exact State.raiseInvalid_inbox s (kindOf i) c
  all_goals rfl

/-- An operation with a cause raises the Invalid Access of its direction with that cause, and does nothing else (R151, R152). -/
theorem exec_of_cause {i : Instr} {c : Cause} (hc : i.cause = some c) (s : State) :
    exec i s = .next (s.raiseInvalid (kindOf i) c) := by
  obtain ⟨t, ht⟩ := exec_completes i s
  obtain ⟨-, valid, -⟩ | ⟨c', hc', rfl⟩ | ⟨v, rfl, -⟩ | ⟨v, rfl, -⟩ | ⟨v, rfl, -⟩ | ⟨v, rfl, -⟩ | ⟨v, rfl, -⟩ := exec_cases ht
  case inl => exact absurd (valid.symm.trans hc) nofun
  case inr.inl =>
    obtain rfl : c' = c := Option.some.inj (hc'.symm.trans hc)
    exact ht
  all_goals exact absurd hc nofun

/-- An invalid read counts, answers `NoData` and changes nothing else (R84, R86). -/
theorem exec_of_invalid_read {i : Instr} {c : Cause} (hr : i.isWrite = false) (hc : i.cause = some c) (s : State) :
    exec i s = .next { s with missRd := s.missRd + 1, err := s.err + 1, result := some .noData } := by
  have kind : kindOf i = .read := by rw [kindOf, hr]; rfl
  rw [exec_of_cause hc, kind]
  rfl

/-- An invalid write counts, has no result and changes nothing else (R84). -/
theorem exec_of_invalid_write {i : Instr} {c : Cause} (hw : i.isWrite = true) (hc : i.cause = some c) (s : State) :
    exec i s = .next { s with missWr := s.missWr + 1, err := s.err + 1, result := none } := by
  have kind : kindOf i = .write := by rw [kindOf, hw]; rfl
  rw [exec_of_cause hc, kind]
  rfl

end Sys2Proof.Machine

namespace Sys2Proof.Proofs

open Sys2Proof.Machine

/-- Settles O10: a step runs the operation of the transaction it accepts, every operation completes, and none touches the
pending transactions that acceptance leaves. -/
theorem everyTransactionCompletes : Obligations.EveryTransactionCompletes := by
  have completes (i : Instr) (s : State) : ∃ t, exec i s = .next t ∧ t.inbox = s.inbox := by
    obtain ⟨t, ht⟩ := exec_completes i s
    exact ⟨t, ht, exec_inbox ht⟩
  refine ⟨?_, completes⟩
  intro s now txn
  rw [step_cons rfl]
  exact completes (decode txn) _

/-- Settles O34: both operations are reads with a cause. -/
theorem invalidReadsOnlyCount : Obligations.InvalidReadsOnlyCount := by
  intro s
  exact ⟨fun _ => ⟨exec_of_invalid_read rfl rfl s, rfl⟩, exec_of_invalid_read rfl rfl s, rfl, keyOf_readOf .icr⟩

/-- Settles O35: the three operations are writes with a cause. -/
theorem invalidWritesOnlyCount : Obligations.InvalidWritesOnlyCount := by
  intro s v
  exact ⟨fun _ => ⟨exec_of_invalid_write rfl rfl s, rfl⟩,
    exec_of_invalid_write rfl rfl s, rfl, keyOf_writeOf .ris v,
    exec_of_invalid_write rfl rfl s, rfl, keyOf_writeOf .mis v⟩

end Sys2Proof.Proofs
end

section
/-! PROOFS of the family `41_counter_regs.md`. `MR` is read by `driveData` and written by `putMr`, and neither touches anything
else. -/

namespace Sys2Proof.Machine

/-- R97. -/
theorem exec_rdMr (s : State) : exec .rdMr s = .next (s.driveData s.mr) := rfl

/-- R98. -/
theorem exec_wrMr (v : Word) (s : State) : exec (.wrMr v) s = .next (s.putMr v).finishWrite := rfl

end Sys2Proof.Machine

namespace Sys2Proof.Proofs

open Sys2Proof.Machine

/-- Settles O15: the two operations are one read of `MR` and one store to it, at the keys of `MR`'s offset. -/
theorem mrIsPureStorage : Obligations.MrIsPureStorage := by
  have resetValue : State.reset.mr = 0 := rfl
  exact ⟨exec_rdMr, exec_wrMr, keyOf_readOf .mr, keyOf_writeOf .mr, resetValue⟩

end Sys2Proof.Proofs
end

section
/-! PROOFS of the family `42_interrupt_regs.md`. The level a write of `IMSC` gives the line and the masked status that `RD.MIS`
returns are the same bit: the match condition, with bit 0 of the mask. -/

namespace Sys2Proof.Machine

/-- R111. -/
theorem exec_wrImsc (v : Word) (s : State) :
    exec (.wrImsc v) s = .next (s.writeImsc Config.matchCond v s.now) := rfl

/-- R114. -/
theorem exec_rdMis (s : State) : exec .rdMis s = .next (s.driveData (s.misv Config.matchCond s.now)) := rfl

@[simp] theorem zextBit_bne_zero (b : Bool) : (zextBit b != 0) = b := by
  cases b <;> rfl

/-- The written mask reaches the line through its bit 0 alone (R111). -/
theorem State.lineLevel_eq_and (m : Word → Word → Bool) (s : State) (v : Word) (now : Int) :
    s.lineLevel m v now = (s.matched m now && v.getLsbD 0) := by
  rw [State.lineLevel, State.risv, zextBit_and, zextBit_bne_zero]

/-- Bit 0 of a word is its parity. -/
theorem getLsbD_zero_eq_parity (v : Word) : v.getLsbD 0 = (v.toNat % 2 == 1) :=
  Nat.testBit_zero v.toNat

/-- A write of `IMSC` changes the mask, the line and the result, and no other component (R111). -/
theorem State.writeImsc_eq (m : Word → Word → Bool) (v : Word) (now : Int) (s : State) :
    s.writeImsc m v now =
      { s with imsc := v, irq := s.matched m now && v.toNat % 2 == 1, result := none } := by
  rw [← getLsbD_zero_eq_parity, ← State.lineLevel_eq_and]
  rfl

end Sys2Proof.Machine

namespace Sys2Proof.Proofs

open Sys2Proof.Machine

/-- Settles O24: the write's line level is the match condition with the parity of the value written. -/
theorem writeImscStoresAndRecomputesTheLine : Obligations.WriteImscStoresAndRecomputesTheLine := by
  refine ⟨fun v s => ?_, keyOf_writeOf .imsc⟩
  rw [exec_wrImsc, State.writeImsc_eq, State.matched]

/-- Settles O26: the value returned is the masked status, which is one widened bit. -/
theorem readMisReturnsTheMaskedStatus : Obligations.ReadMisReturnsTheMaskedStatus := by
  refine ⟨fun s => ⟨s.misv Config.matchCond s.now, rfl, ?_, exec_rdMis s⟩, keyOf_readOf .mis⟩
  rw [State.misv_eq_zextBit, zextBit, State.matched]

end Sys2Proof.Proofs
end

section
/-! PROOFS of the family `60_exceptions.md`. An operation without a cause leaves the counters alone and, where it reads, drives
data; one with a cause is the Invalid Access of its direction. -/

namespace Sys2Proof.Machine

/-- A valid operation raises no Invalid Access: no written value does (R151). -/
theorem exec_counters_of_valid {i : Instr} {s t : State} (hc : i.cause = none) (h : exec i s = .next t) :
    t.err = s.err ∧ t.missRd = s.missRd ∧ t.missWr = s.missWr := by
  obtain ⟨-, -, v, rfl⟩ | ⟨c, invalid, -⟩ | ⟨v, -, rfl⟩ | ⟨v, -, rfl⟩ | ⟨v, -, rfl⟩ | ⟨v, -, rfl⟩ | ⟨v, -, rfl⟩ := exec_cases h
  case inr.inl => exact absurd (hc.symm.trans invalid) nofun
  all_goals exact ⟨rfl, rfl, rfl⟩

/-- A valid read drives data and does nothing else (R86). -/
theorem exec_valid_read {i : Instr} {s t : State} (hr : i.isWrite = false) (hc : i.cause = none)
    (h : exec i s = .next t) : ∃ v, t = s.driveData v := by
  obtain ⟨-, -, drives⟩ | ⟨c, invalid, -⟩ | ⟨v, rfl, -⟩ | ⟨v, rfl, -⟩ | ⟨v, rfl, -⟩ | ⟨v, rfl, -⟩ | ⟨v, rfl, -⟩ := exec_cases h
  case inl => exact drives
  case inr.inl => exact absurd (hc.symm.trans invalid) nofun
  all_goals exact absurd hr nofun

end Sys2Proof.Machine

namespace Sys2Proof

/-- The fourteen valid reads: all but the wrong width, the unmapped offset and `ICR` (R65, R151). -/
theorem Instr.mem_valid_reads {i : Instr} (hr : i.isWrite = false) (hc : i.cause = none) :
    i ∈ [Instr.rdLr, .rdMr, .rdRtccr, .rdImsc, .rdRis, .rdMis,
      .rdId0, .rdId1, .rdId2, .rdId3, .rdId4, .rdId5, .rdId6, .rdId7] := by
  cases i
  case rdBadlen | rdUnmapped | rdIcr => cases hc
  case rdLr | rdMr | rdRtccr | rdImsc | rdRis | rdMis => decide
  case rdId0 | rdId1 | rdId2 | rdId3 | rdId4 | rdId5 | rdId6 | rdId7 => decide
  all_goals cases hr

/-- The five valid writes: an operation completes in every state, and `exec_cases` names each write that raises nothing. -/
theorem Instr.mem_valid_writes {i : Instr} (hw : i.isWrite = true) (hc : i.cause = none) :
    ∃ v, i ∈ [Instr.wrLr v, .wrMr v, .wrRtccr v, .wrImsc v, .wrIcr v] := by
  obtain ⟨t, ht⟩ := Machine.exec_completes i Machine.State.reset
  obtain ⟨read, -⟩ | ⟨c, invalid, -⟩ | ⟨v, rfl, -⟩ | ⟨v, rfl, -⟩ | ⟨v, rfl, -⟩ | ⟨v, rfl, -⟩ | ⟨v, rfl, -⟩ :=
    Machine.exec_cases ht
  case inl => exact absurd (read.symm.trans hw) nofun
  case inr.inl => exact absurd (hc.symm.trans invalid) nofun
  all_goals exact ⟨v, by simp⟩

end Sys2Proof

namespace Sys2Proof.Proofs

open Sys2Proof.Machine

/-- Settles O37: R151's table row by row; then an operation without a cause leaves the counters alone, and one with a cause is
the Invalid Access of its direction; last, the valid operations by direction. -/
theorem invalidAccessesHaveExactlyTheListedCauses : Obligations.InvalidAccessesHaveExactlyTheListedCauses := by
  refine ⟨fun off len data v => ⟨rfl, rfl, rfl, rfl, ?_, rfl⟩, fun i s t h => ⟨?_, ?_⟩, ?_⟩
  · simp [Instr.cause]
  · intro hc
    obtain ⟨err, missRd, missWr⟩ := exec_counters_of_valid hc h
    refine ⟨err, missRd, missWr, fun hr => ?_⟩
    obtain ⟨v, rfl⟩ := exec_valid_read hr hc h
    exact ⟨v, rfl, rfl⟩
  · intro invalid
    obtain ⟨c, hc⟩ := Option.ne_none_iff_exists'.mp invalid
    cases direction : i.isWrite with
    | false =>
      cases h.symm.trans (exec_of_invalid_read direction hc s)
      exact ⟨rfl, fun _ => ⟨rfl, rfl, rfl⟩, nofun⟩
    | true =>
      cases h.symm.trans (exec_of_invalid_write direction hc s)
      exact ⟨rfl, nofun, fun _ => ⟨rfl, rfl⟩⟩
  · intro i hc
    cases direction : i.isWrite with
    | false => exact .inl (Instr.mem_valid_reads direction hc)
    | true => exact .inr (Instr.mem_valid_writes direction hc)

end Sys2Proof.Proofs
end

section
/-! PROOFS about `30_encoding.md` and `20_memory.md`: a register operation is the decoding of an access at its register's offset,
and its encoding is that access, so decoding and encoding undo each other register by register. -/

namespace Sys2Proof

/-! ### Bytes and words -/

/-- Byte `k` of a value laid out is what division by `256^k` leaves (section 5.2). -/
theorem Machine.toNat_extractLsb'_byte (v : Word) (start : Nat) :
    (v.extractLsb' start 8).toNat = v.toNat / 2 ^ start % 256 := by
  rw [BitVec.extractLsb'_toNat, Nat.shiftRight_eq_div_pow]

@[simp] theorem Machine.le32_bytesLe (v : Word) : Machine.le32 (Machine.bytesLe v) = v := by
  apply BitVec.eq_of_toNat_eq
  rw [Machine.bytesLe, Machine.toNat_le32_four]
  simp only [Machine.toNat_extractLsb'_byte]
  omega

theorem Machine.bytesLe_le32_four (b0 b1 b2 b3 : Byte) :
    Machine.bytesLe (Machine.le32 [b0, b1, b2, b3]) = [b0, b1, b2, b3] := by
  have byte (start : Nat) (b : Byte)
      (h : (b0.toNat + 256 * b1.toNat + 65536 * b2.toNat + 16777216 * b3.toNat) / 2 ^ start % 256 = b.toNat) :
      (Machine.le32 [b0, b1, b2, b3]).extractLsb' start 8 = b := by
    apply BitVec.eq_of_toNat_eq
    rw [Machine.toNat_extractLsb'_byte, Machine.toNat_le32_four, h]
  have := b0.isLt
  have := b1.isLt
  have := b2.isLt
  have := b3.isLt
  rw [Machine.bytesLe, byte 0 b0 (by omega), byte 8 b1 (by omega), byte 16 b2 (by omega), byte 24 b3 (by omega)]

theorem Machine.bytesLe_le32 {data : List Byte} (h : data.length = accessLen) :
    Machine.bytesLe (Machine.le32 data) = data := by
  obtain ⟨b0, b1, b2, b3, rfl⟩ := List.length_eq_four.1 h
  exact Machine.bytesLe_le32_four b0 b1 b2 b3

/-! ### Register operations -/

/-- A 4-byte read at a register's offset is that register's read (R65). -/
theorem decode_read_regOffset (r : Reg) {out : List Byte} (h : out.length = accessLen) :
    decode (.read (regOffset r) out) = decodeRead (regOffset r) (some r) := by
  rw [decode_read_of_length_eq _ h, lookup_regOffset]

theorem decode_readOf (r : Reg) : decode (readOf r) = decodeRead (regOffset r) (some r) :=
  decode_read_regOffset r rfl

theorem decode_writeOf (r : Reg) (v : Word) : decode (writeOf r v) = decodeWrite (regOffset r) v (some r) := by
  rw [writeOf, decode_write_of_length_eq _ rfl, lookup_regOffset, Machine.le32_bytesLe]

/-- The read of a register is encoded as the access of that register, whatever offset the decoder was given. -/
theorem encode_decodeRead (off : Nat) (r : Reg) : encode (decodeRead off (some r)) = readOf r := by
  cases r with
  | id k => match k with | 0 | 1 | 2 | 3 | 4 | 5 | 6 | 7 => rfl
  | _ => rfl

theorem encode_decodeWrite (off : Nat) (v : Word) (r : Reg) : encode (decodeWrite off v (some r)) = writeOf r v := by
  cases r with
  | id k => match k with | 0 | 1 | 2 | 3 | 4 | 5 | 6 | 7 => rfl
  | _ => rfl

/-- What the address map finds makes a well-formed read (R65). -/
theorem decodeRead_wf_isWrite (off : Nat) :
    (decodeRead off (lookup off)).wf = true ∧ (decodeRead off (lookup off)).isWrite = false := by
  cases h : lookup off with
  | none => exact ⟨beq_iff_eq.2 h, rfl⟩
  | some r => cases r with
    | id k => match k with | 0 | 1 | 2 | 3 | 4 | 5 | 6 | 7 => exact ⟨rfl, rfl⟩
    | _ => exact ⟨rfl, rfl⟩

theorem decodeWrite_wf_isWrite (off : Nat) (v : Word) :
    (decodeWrite off v (lookup off)).wf = true ∧ (decodeWrite off v (lookup off)).isWrite = true := by
  cases h : lookup off with
  | none => exact ⟨beq_iff_eq.2 h, rfl⟩
  | some r => cases r with
    | id k => match k with | 0 | 1 | 2 | 3 | 4 | 5 | 6 | 7 => exact ⟨rfl, rfl⟩
    | _ => exact ⟨rfl, rfl⟩

/-- Every identification register reads (R130 to R137). -/
theorem cause_decodeRead_id (off : Nat) (k : Fin 8) : (decodeRead off (some (.id k))).cause = none :=
  match k with | 0 | 1 | 2 | 3 | 4 | 5 | 6 | 7 => rfl

/-- Every identification register is read-only (R138 to R145). -/
theorem cause_decodeWrite_id (off : Nat) (v : Word) (k : Fin 8) :
    (decodeWrite off v (some (.id k))).cause = some .readOnly :=
  match k with | 0 | 1 | 2 | 3 | 4 | 5 | 6 | 7 => rfl

/-! ### Transactions -/

/-- What a transaction decodes to is well formed and of its direction. -/
theorem decode_wf_isWrite (t : Txn) : (decode t).wf = true ∧ (decode t).isWrite = t.isWrite := by
  cases t with
  | read off out =>
    by_cases h : out.length = accessLen
    · rw [decode_read_of_length_eq off h]
      exact decodeRead_wf_isWrite off
    · rw [decode_read_of_length_ne off h]
      exact ⟨bne_iff_ne.2 h, rfl⟩
  | write off data =>
    by_cases h : data.length = accessLen
    · rw [decode_write_of_length_eq off h]
      exact decodeWrite_wf_isWrite off (Machine.le32 data)
    · rw [decode_write_of_length_ne off h]
      exact ⟨bne_iff_ne.2 h, rfl⟩

theorem decode_isWrite (t : Txn) : (decode t).isWrite = t.isWrite := (decode_wf_isWrite t).2

/-- A read decoded and encoded again is the read with its buffer cleared: the buffer is no part of the request (R60). -/
theorem encode_decode_read (off : Nat) (out : List Byte) :
    encode (decode (.read off out)) = .read off (List.replicate out.length 0) := by
  by_cases h : out.length = accessLen
  · rw [decode_read_of_length_eq off h, h]
    cases hl : lookup off with
    | none => rfl
    | some r =>
      obtain rfl := lookup_eq_some.1 hl
      exact encode_decodeRead _ r
  · rw [decode_read_of_length_ne off h, encode]

/-- A write decoded and encoded again is the write itself. -/
theorem encode_decode_write (off : Nat) (data : List Byte) :
    encode (decode (.write off data)) = .write off data := by
  by_cases h : data.length = accessLen
  · rw [decode_write_of_length_eq off h]
    cases hl : lookup off with
    | none => rw [decodeWrite, encode, Machine.bytesLe_le32 h]
    | some r =>
      obtain rfl := lookup_eq_some.1 hl
      rw [encode_decodeWrite, writeOf, Machine.bytesLe_le32 h]
  · rw [decode_write_of_length_ne off h, encode]

/-! ### Offsets -/

theorem lookup_eq_none_iff_notMem {off : Nat} : lookup off = none ↔ off ∉ allRegs.map regOffset := by
  refine ⟨fun h hm => ?_, lookup_eq_none_of_notMem⟩
  obtain ⟨r, -, hr⟩ := List.mem_map.1 hm
  exact lookup_eq_none.1 h r hr

/-- The offsets of the map are the multiples of 4 in two ranges (R46, R64). -/
theorem lookup_eq_none_iff_ranges (off : Nat) :
    lookup off = none ↔ (off % 4 ≠ 0 ∨ (0x01C ≤ off ∧ off < 0xFE0) ∨ 0x1000 ≤ off) := by
  rw [lookup_eq_none_iff_notMem, map_regOffset_allRegs]
  simp only [List.mem_cons, List.not_mem_nil, or_false]
  omega

/-! ### Keys -/

/-- The key of a 4-byte read inside the window is its offset (R60). -/
theorem keyOf_read {off : Nat} {out : List Byte} (hl : out.length = accessLen) (ho : off < windowSize) :
    keyOf (.read off out) = some off :=
  (if_pos ⟨hl, ho⟩).trans (congrArg some (Nat.zero_add off))

/-- The key of a 4-byte write inside the window is its offset with bit 12 set (R60). -/
theorem keyOf_write {off : Nat} {data : List Byte} (hl : data.length = accessLen) (ho : off < windowSize) :
    keyOf (.write off data) = some (windowSize + off) :=
  if_pos ⟨hl, ho⟩

/-- A number of at most 13 bits is the key of the transaction it stands for (R60). -/
theorem keyOf_txnOfKey {key : Nat} (h : key < 0x2000) : ∃ t, txnOfKey key = some t ∧ keyOf t = some key := by
  by_cases read : key < windowSize
  · exact ⟨.read key [0, 0, 0, 0], if_pos read, keyOf_read rfl read⟩
  · have write : key < 2 * windowSize := by rw [windowSize]; omega
    have inside : key - windowSize < windowSize := by omega
    refine ⟨.write (key - windowSize) [0, 0, 0, 0], (if_neg read).trans (if_pos write), ?_⟩
    rw [keyOf_write rfl inside, Nat.add_sub_cancel' (not_lt.1 read)]

theorem txnOfKey_eq_none {key : Nat} (h : 0x2000 ≤ key) : txnOfKey key = none := by
  have read : ¬ key < windowSize := by rw [windowSize]; omega
  have write : ¬ key < 2 * windowSize := by rw [windowSize]; omega
  exact (if_neg read).trans (if_neg write)

/-- The transaction of a key carries four zero bytes (log entry 17). -/
theorem txnOfKey_buffer {key : Nat} {t : Txn} (h : txnOfKey key = some t) : t.buffer = [0, 0, 0, 0] := by
  unfold txnOfKey at h
  split at h
  · cases h; rfl
  · split at h
    · cases h; rfl
    · cases h

/-- A table word of 16 bits is decoded as a key. -/
theorem decodeTableWord_sixteen (key : Nat) : decodeTableWord 16 key = (txnOfKey key).map decode := rfl

/-- A key depends on the direction, the offset and the length alone (R60). -/
theorem keyOf_congr {t u : Txn} (hw : t.isWrite = u.isWrite) (ho : t.off = u.off) (hl : t.len = u.len) :
    keyOf t = keyOf u := by
  rw [keyOf, keyOf, hw, ho, hl]

end Sys2Proof

namespace Sys2Proof.Proofs

open Sys2Proof.Machine

/-- Settles O1: the four operations without a register by their well-formedness, the others as the access of their register. -/
theorem decodeUndoesEncode : Obligations.DecodeUndoesEncode := by
  intro i h
  cases i
  case rdBadlen off len =>
    have width : (List.replicate len (0 : Byte)).length = len := List.length_replicate
    rw [encode, decode_read_of_length_ne off (width.symm ▸ bne_iff_ne.1 h), width]
  case wrBadlen off data => exact decode_write_of_length_ne off (bne_iff_ne.1 h)
  case rdUnmapped off =>
    rw [encode, decode_read_of_length_eq off rfl, beq_iff_eq.1 h, decodeRead]
  case wrUnmapped off v =>
    rw [encode, decode_write_of_length_eq off (bytesLe_length v), beq_iff_eq.1 h, decodeWrite, le32_bytesLe]
  case rdLr | rdMr | rdRtccr | rdImsc | rdRis | rdMis | rdIcr => exact decode_readOf _
  case rdId0 | rdId1 | rdId2 | rdId3 | rdId4 | rdId5 | rdId6 | rdId7 => exact decode_readOf (.id _)
  case wrLr v | wrMr v | wrRtccr v | wrImsc v | wrRis v | wrMis v | wrIcr v => exact decode_writeOf _ v
  case wrId0 v | wrId1 v | wrId2 v | wrId3 v | wrId4 v | wrId5 v | wrId6 v | wrId7 v => exact decode_writeOf (.id _) v

/-- Settles O2: a write comes back whole, a read with its buffer cleared. -/
theorem encodeRestoresTheRequest : Obligations.EncodeRestoresTheRequest := by
  intro t
  cases t with
  | read off out =>
    rw [encode_decode_read]
    exact ⟨rfl, rfl, List.length_replicate, nofun⟩
  | write off data =>
    rw [encode_decode_write]
    exact ⟨rfl, rfl, rfl, fun _ => rfl⟩

/-- Settles O4. -/
theorem everyTransactionDecodesWellFormed : Obligations.EveryTransactionDecodesWellFormed :=
  decode_wf_isWrite

/-- Settles O5. -/
theorem unmappedOffsetsAreExactlyTheListedRanges : Obligations.UnmappedOffsetsAreExactlyTheListedRanges :=
  lookup_eq_none_iff_ranges

/-- Settles O6: encoding what a key's transaction decodes to restores all that the key depends on. -/
theorem everyKeySelectsTheOperationWithThatKey : Obligations.EveryKeySelectsTheOperationWithThatKey := by
  refine ⟨fun key h => ?_, fun key h => ?_⟩
  · obtain ⟨t, word, hkey⟩ := keyOf_txnOfKey h
    obtain ⟨dir, off, len, -⟩ := encodeRestoresTheRequest t
    refine ⟨decode t, ?_, (decode_wf_isWrite t).1, (keyOf_congr dir off len).trans hkey⟩
    rw [decodeTableWord_sixteen, word, Option.map_some]
  · rw [decodeTableWord_sixteen, txnOfKey_eq_none h, Option.map_none]

/-- Settles O7: eight closed words. -/
theorem writtenOutKeysDecode : Obligations.WrittenOutKeysDecode := by
  unfold Obligations.WrittenOutKeysDecode
  decide

/-- Settles O8. -/
theorem byteOrderIsLittleEndian : Obligations.ByteOrderIsLittleEndian := by
  refine ⟨le32_bytesLe, fun b0 b1 b2 b3 => ⟨bytesLe_le32_four b0 b1 b2 b3, toNat_le32_four b0 b1 b2 b3⟩, ?_⟩
  intro v k j
  have bit (start : Nat) : (v.extractLsb' start 8).getLsbD j = v.getLsbD (start + j) := by
    rw [BitVec.getLsbD_extractLsb', decide_eq_true j.isLt, Bool.true_and]
  match k with
  | 0 => exact bit 0
  | 1 => exact bit 8
  | 2 => exact bit 16
  | 3 => exact bit 24

/-- Settles O38: the width, then the register the offset names, then the direction. -/
theorem widthThenOffsetThenDirection : Obligations.WidthThenOffsetThenDirection := by
  intro t
  cases t with
  | read off out =>
    by_cases h : out.length = accessLen
    · rw [decode_read_of_length_eq off h]
      refine Eq.trans ?_ (if_neg (not_not_intro h)).symm
      rw [Txn.off]
      cases lookup off with
      | none => rfl
      | some r => cases r with
        | id k => exact cause_decodeRead_id off k
        | _ => rfl
    · rw [decode_read_of_length_ne off h]
      exact (if_pos h).symm
  | write off data =>
    by_cases h : data.length = accessLen
    · rw [decode_write_of_length_eq off h]
      refine Eq.trans ?_ (if_neg (not_not_intro h)).symm
      rw [Txn.off]
      cases lookup off with
      | none => rfl
      | some r => cases r with
        | id k => exact cause_decodeWrite_id off _ k
        | _ => rfl
    · rw [decode_write_of_length_ne off h]
      exact (if_pos h).symm

end Sys2Proof.Proofs
end

section
/-! PROOFS: what a step and a run do, said once. Every step answers a state and takes one transaction off the inbox; per
component, which operation writes it and what it then holds; and one induction for what a run keeps. -/

namespace Sys2Proof.Machine

/-! ### Steps and runs complete -/

/-- With no transaction pending a step changes nothing (log entry 2). -/
theorem step_nil {s : State} (h : s.inbox = []) : step s = .next s := by
  simp only [step, State.fetch, h]

/-- R85, and R7: a step answers a state and serves exactly one transaction. -/
theorem step_completes (s : State) : ∃ t, step s = .next t ∧ t.inbox = s.inbox.tail := by
  cases hin : s.inbox with
  | nil => exact ⟨s, step_nil hin, hin⟩
  | cons d rest =>
    obtain ⟨t, ht⟩ := exec_completes (decode d.txn) (s.accept d rest)
    exact ⟨t, (step_cons hin).trans ht, exec_inbox ht⟩

theorem step_inbox {s t : State} (h : step s = .next t) : t.inbox = s.inbox.tail := by
  obtain ⟨t', ht, hin⟩ := step_completes s
  cases h.symm.trans ht
  exact hin

/-- A transaction the bus master issues is what the next step serves; the pending ones stay. -/
theorem step_issue (s : State) (d : Delivery) :
    step (s.issue d) = exec (decode d.txn) { s with now := d.now, buf := d.txn.buffer } :=
  step_cons rfl

/-- A run answers a state and serves as many transactions as it has steps. -/
theorem run_completes (k : Nat) (s : State) :
    ∃ t : State, Host.Core.run Sys2Proof.core k s = .next t ∧ t.inbox = s.inbox.drop k := by
  induction k generalizing s with
  | zero => exact ⟨s, rfl, rfl⟩
  | succ k ih =>
    obtain ⟨s', hs, hin⟩ := step_completes s
    obtain ⟨t, ht, hdrop⟩ := ih s'
    refine ⟨t, (run_succ k hs).trans ht, ?_⟩
    rw [hdrop, hin, List.drop_tail]

/-- A run goes on from the state its first steps answer. -/
theorem run_add {j : Nat} {s t : State} (k : Nat) (h : Host.Core.run Sys2Proof.core j s = .next t) :
    Host.Core.run Sys2Proof.core (j + k) s = Host.Core.run Sys2Proof.core k t := by
  induction j generalizing s with
  | zero =>
    cases h
    rw [Nat.zero_add]
  | succ j ih =>
    obtain ⟨s', hs, -⟩ := step_completes s
    rw [run_succ j hs] at h
    rw [Nat.succ_add, run_succ (j + k) hs, ih h]

/-- A run of one step is a step. -/
theorem run_one (s : State) : Host.Core.run Sys2Proof.core 1 s = step s := by
  obtain ⟨t, ht, -⟩ := step_completes s
  rw [run_succ 0 ht, ht]
  rfl

/-- What every step keeps that serves an admitted delivery, or none, a run keeps whose deliveries are admitted. -/
theorem run_keeps {P : State → Prop} {admitted : Delivery → Prop}
    (keeps : ∀ s t, P s → (∀ d rest, s.inbox = d :: rest → admitted d) → step s = .next t → P t)
    (k : Nat) {s t : State} (hs : P s) (hd : ∀ d ∈ s.inbox.take k, admitted d)
    (h : Host.Core.run Sys2Proof.core k s = .next t) : P t := by
  induction k generalizing s with
  | zero =>
    cases h
    exact hs
  | succ k ih =>
    obtain ⟨s', hstep, hin⟩ := step_completes s
    rw [run_succ k hstep] at h
    refine ih (keeps s s' hs (fun d rest hcons => hd d ?_) hstep) (fun d hmem => hd d ?_) h
    · rw [hcons]
      exact List.mem_cons_self
    · refine List.mem_of_mem_tail ?_
      rwa [List.tail_take_eq_take_tail, Nat.add_sub_cancel, ← hin]

/-! ### Which operation writes a component -/

variable {i : Instr} {s t : State}

/-- The identification bytes are written by no operation (R23). -/
theorem exec_idReg (h : exec i s = .next t) : t.idReg = s.idReg := by
  obtain ⟨-, -, v, rfl⟩ | ⟨c, -, rfl⟩ | ⟨v, -, rfl⟩ | ⟨v, -, rfl⟩ | ⟨v, -, rfl⟩ |
    ⟨v, -, rfl⟩ | ⟨v, -, rfl⟩ := exec_cases h
  all_goals simp

/-- `LRV` and `BASE` are written by `WR.LR` only (R14, R15, R96). -/
theorem exec_lrv_base (h : exec i s = .next t) :
    (∃ v, i = .wrLr v ∧ t.lrv = v ∧ t.base = s.now) ∨ (t.lrv = s.lrv ∧ t.base = s.base) := by
  obtain ⟨-, -, v, rfl⟩ | ⟨c, -, rfl⟩ | ⟨v, hi, rfl⟩ | ⟨v, -, rfl⟩ | ⟨v, -, rfl⟩ |
    ⟨v, -, rfl⟩ | ⟨v, -, rfl⟩ := exec_cases h
  case inr.inr.inl => exact .inl ⟨v, hi, rfl, rfl⟩
  all_goals exact .inr (by simp)

/-- `MR` is written by `WR.MR` only (R17, R98). -/
theorem exec_mr (h : exec i s = .next t) : (∃ v, i = .wrMr v ∧ t.mr = v) ∨ t.mr = s.mr := by
  obtain ⟨-, -, v, rfl⟩ | ⟨c, -, rfl⟩ | ⟨v, -, rfl⟩ | ⟨v, hi, rfl⟩ | ⟨v, -, rfl⟩ |
    ⟨v, -, rfl⟩ | ⟨v, -, rfl⟩ := exec_cases h
  case inr.inr.inr.inl => exact .inl ⟨v, hi, rfl⟩
  all_goals exact .inr (by simp)

/-- `EN` is written by `WR.RTCCR` only, which can but set it (R18, R100). -/
theorem exec_en (h : exec i s = .next t) :
    (∃ v, i = .wrRtccr v ∧ t.en = (s.en || v.getLsbD 0)) ∨ t.en = s.en := by
  obtain ⟨-, -, v, rfl⟩ | ⟨c, -, rfl⟩ | ⟨v, -, rfl⟩ | ⟨v, -, rfl⟩ | ⟨v, hi, rfl⟩ |
    ⟨v, -, rfl⟩ | ⟨v, -, rfl⟩ := exec_cases h
  case inr.inr.inr.inr.inl => exact .inl ⟨v, hi, rfl⟩
  all_goals exact .inr (by simp)

/-- The mask and the line: `WR.IMSC` writes both, `WR.ICR` lowers the line, and nothing else touches either (R19, R119). -/
theorem exec_imsc_irq (h : exec i s = .next t) :
    (∃ v, i = .wrImsc v ∧ t.imsc = v ∧ t.irq = s.lineLevel Config.matchCond v s.now) ∨
    (t.imsc = s.imsc ∧ ((∃ v, i = .wrIcr v ∧ t.irq = false) ∨ t.irq = s.irq)) := by
  obtain ⟨-, -, v, rfl⟩ | ⟨c, -, rfl⟩ | ⟨v, -, rfl⟩ | ⟨v, -, rfl⟩ | ⟨v, -, rfl⟩ |
    ⟨v, hi, rfl⟩ | ⟨v, hi, rfl⟩ := exec_cases h
  case inr.inr.inr.inr.inr.inl => exact .inl ⟨v, hi, rfl, rfl⟩
  case inr.inr.inr.inr.inr.inr => exact .inr ⟨rfl, .inl ⟨v, hi, rfl⟩⟩
  all_goals exact .inr ⟨by simp, .inr (by simp)⟩

/-- The counters: at most one Invalid Access, of one direction, counted in `ERR` too (R26, R84). -/
theorem exec_counters (h : exec i s = .next t) :
    ∃ r w : Nat, r + w ≤ 1 ∧ t.missRd = s.missRd + r ∧ t.missWr = s.missWr + w ∧ t.err = s.err + r + w := by
  cases hc : i.cause with
  | none =>
    obtain ⟨err, missRd, missWr⟩ := exec_counters_of_valid hc h
    exact ⟨0, 0, Nat.zero_le 1, missRd, missWr, err⟩
  | some c =>
    cases direction : i.isWrite with
    | false =>
      cases h.symm.trans (exec_of_invalid_read direction hc s)
      exact ⟨1, 0, le_rfl, rfl, rfl, rfl⟩
    | true =>
      cases h.symm.trans (exec_of_invalid_write direction hc s)
      exact ⟨0, 1, le_rfl, rfl, rfl, rfl⟩

theorem step_counters (h : step s = .next t) :
    ∃ r w : Nat, r + w ≤ 1 ∧ t.missRd = s.missRd + r ∧ t.missWr = s.missWr + w ∧ t.err = s.err + r + w := by
  obtain ⟨-, rfl⟩ | ⟨d, rest, -, hex⟩ := step_cases h
  · exact ⟨0, 0, Nat.zero_le 1, rfl, rfl, rfl⟩
  · exact exec_counters (s := s.accept d rest) hex

end Sys2Proof.Machine

namespace Sys2Proof.Proofs

open Sys2Proof.Machine

/-- Settles O9. -/
theorem stepRunsTheDecodedOperation : Obligations.StepRunsTheDecodedOperation :=
  fun _ _ _ h => step_cons h

/-- Settles O12: the placed word's transaction comes first, and its buffer is four zero bytes. -/
theorem idleStepsAndPlacedWords : Obligations.IdleStepsAndPlacedWords := by
  refine ⟨fun s h => step_nil h, fun s key i h => ?_⟩
  obtain ⟨txn, word, rfl⟩ := Option.map_eq_some_iff.1 h
  have placed : s.withFetchWord 16 key = s.issue ⟨s.now, txn⟩ := by
    rw [State.withFetchWord, State.issueTableWord, word]
  rw [placed, step_issue, txnOfKey_buffer word]

/-- Settles O46. -/
theorem countersGrowByAtMostOneTogether : Obligations.CountersGrowByAtMostOneTogether :=
  fun _ _ h => step_counters h

/-- Settles O55: per component, the step is idle or runs the one operation that writes it. -/
theorem eachRegisterChangesOnlyByItsOwnWrite : Obligations.EachRegisterChangesOnlyByItsOwnWrite := by
  intro s t h
  obtain ⟨-, rfl⟩ | ⟨d, rest, hin, hex⟩ := step_cases h
  · exact ⟨fun hne => absurd hne (by simp), fun hne => absurd rfl hne, fun hne => absurd rfl hne, rfl⟩
  · refine ⟨fun hne => ?_, fun hne => ?_, fun hne => ?_, exec_idReg (s := s.accept d rest) hex⟩
    · obtain ⟨v, hi, hlrv, hbase⟩ | ⟨hlrv, hbase⟩ := exec_lrv_base hex
      · exact ⟨d, rest, v, hin, hi, hlrv, hbase⟩
      · exact absurd hne (not_or_intro (not_not_intro hlrv) (not_not_intro hbase))
    · obtain ⟨v, hi, hmr⟩ | hmr := exec_mr hex
      · exact ⟨d, rest, v, hin, hi, hmr⟩
      · exact absurd hmr hne
    · obtain ⟨v, hi, himsc, -⟩ | ⟨himsc, -⟩ := exec_imsc_irq hex
      · exact ⟨d, rest, v, hin, hi, himsc⟩
      · exact absurd himsc hne

/-- Settles O43: the counters grow together; a write of the mask makes the line agree with it, and nothing else raises the line;
the identification bytes stay. -/
theorem everyStepKeepsTheStateInvariant : Obligations.EveryStepKeepsTheStateInvariant := by
  rintro s t ⟨accounts, masked, constant⟩ h
  refine ⟨?_, fun clear => ?_, ?_⟩
  · obtain ⟨r, w, -, missRd, missWr, err⟩ := step_counters h
    omega
  · obtain ⟨-, rfl⟩ | ⟨d, rest, -, hex⟩ := step_cases h
    · exact masked clear
    · obtain ⟨v, -, rfl, irq⟩ | ⟨imsc, ⟨v, -, irq⟩ | irq⟩ := exec_imsc_irq hex
      · rw [irq, State.lineLevel_eq_and, clear, Bool.and_false]
      · exact irq
      · rw [imsc] at clear
        exact irq.trans (masked clear)
  · obtain ⟨-, -, -, idReg⟩ := eachRegisterChangesOnlyByItsOwnWrite s t h
    rw [idReg]
    exact constant

/-- Settles O47: only `WR.RTCCR` writes the bit, and by a disjunction with what it held. -/
theorem enableBitIsSticky : Obligations.EnableBitIsSticky := by
  refine ⟨fun k s t hen h => ?_, fun s t h hne => ?_, fun s d rest v hin hi hv => ?_⟩
  · refine run_keeps (P := fun s => s.en = true) (admitted := fun _ => True) ?_ k hen (fun _ _ => trivial) h
    intro s t hen _ h
    obtain ⟨-, rfl⟩ | ⟨d, rest, -, hex⟩ := step_cases h
    · exact hen
    · obtain ⟨v, -, en⟩ | en := exec_en hex
      · rw [en, State.accept_en, hen, Bool.true_or]
      · exact en.trans hen
  · obtain ⟨-, rfl⟩ | ⟨d, rest, hin, hex⟩ := step_cases h
    · exact absurd rfl hne
    · obtain ⟨v, hi, en⟩ | en := exec_en hex
      · refine ⟨d, rest, v, hin, hi, ?_⟩
        cases bit : v.getLsbD 0 with
        | true => rfl
        | false => rw [bit, Bool.or_false] at en; exact absurd en hne
      · exact absurd en hne
  · refine ⟨((s.accept d rest).orEn (enableBit v)).finishWrite, ?_, ?_⟩
    · rw [step_cons hin, hi]
      rfl
    · simp [enableBit, hv]

end Sys2Proof.Proofs
end

section
/-! PROOFS about `41_counter_regs.md` and the derived counter of `10_state.md` section 2: reduction modulo `2^32` is additive, so
the counter is one offset from the clock. -/

namespace Sys2Proof.Machine

/-- A widened bit laid out: the bit in the lowest byte, zeros above. -/
@[simp] theorem bytesLe_zextBit (b : Bool) : bytesLe (zextBit b) = [if b then 1 else 0, 0, 0, 0] := by
  cases b <;> rfl

/-- R95. -/
theorem exec_rdLr (s : State) : exec .rdLr s = .next (s.driveData (s.counter s.now)) := rfl

/-- R96. -/
theorem exec_wrLr (v : Word) (s : State) : exec (.wrLr v) s = .next (s.putLr v s.now).finishWrite := rfl

/-- R99. -/
theorem exec_rdRtccr (s : State) : exec .rdRtccr s = .next (s.driveData (zextBit s.en)) := rfl

/-- R100. -/
theorem exec_wrRtccr (v : Word) (s : State) : exec (.wrRtccr v) s = .next (s.orEn (enableBit v)).finishWrite := rfl

/-- R16 over the integers: the reduction may come last (D19). -/
theorem State.counter_eq_ofInt (s : State) (now : Int) :
    s.counter now = BitVec.ofInt 32 (s.lrv.toNat + now - s.base) := by
  rw [State.counter, Int.add_sub_assoc, BitVec.ofInt_add, BitVec.ofInt_natCast, BitVec.ofNat_toNat, BitVec.setWidth_eq]

/-- Seconds that pass are seconds the counter advances (R95, R102). -/
theorem State.counter_add (s : State) (now k : Int) : s.counter (now + k) = s.counter now + BitVec.ofInt 32 k := by
  rw [State.counter, State.counter, BitVec.add_assoc, ← BitVec.ofInt_add, add_sub_right_comm]

/-- A load makes the counter the value loaded plus the seconds since (R96). -/
theorem State.counter_of_loaded {t : State} {v : Word} {n : Int} (hl : t.lrv = v) (hb : t.base = n) (now : Int) :
    t.counter now = v + BitVec.ofInt 32 (now - n) := by
  rw [State.counter, hl, hb]

end Sys2Proof.Machine

namespace Sys2Proof.Proofs

open Sys2Proof.Machine

/-- Settles O13. -/
theorem readLrReturnsTheRunningCounter : Obligations.ReadLrReturnsTheRunningCounter :=
  fun s => ⟨s.counter s.now, s.counter_eq_ofInt s.now, exec_rdLr s⟩

/-- Settles O14. -/
theorem writeLrLoadsTheCounter : Obligations.WriteLrLoadsTheCounter := exec_wrLr

/-- Settles O16: the bit widened to a word is laid out in the lowest byte. -/
theorem readRtccrReturnsTheEnableBit : Obligations.ReadRtccrReturnsTheEnableBit := by
  refine ⟨fun s => ?_, keyOf_readOf .rtccr, rfl⟩
  rw [exec_rdRtccr, State.driveData, bytesLe_zextBit]

/-- Settles O17: the bit written is the parity of the value. -/
theorem writeRtccrOnlySetsTheEnableBit : Obligations.WriteRtccrOnlySetsTheEnableBit := by
  intro v s
  have parity : enableBit v = (v.toNat % 2 == 1) := getLsbD_zero_eq_parity v
  refine ⟨fun odd => ?_, fun even => ?_⟩
  · have bit : enableBit v = true := parity.trans (beq_iff_eq.2 odd)
    rw [exec_wrRtccr, bit, State.orEn, Bool.or_true, State.finishWrite]
  · have bit : enableBit v = false := parity.trans (beq_eq_false_iff_ne.2 (by omega))
    rw [exec_wrRtccr, bit, State.orEn, Bool.or_false, State.finishWrite]

/-- Settles O18. -/
theorem counterIsOneOffsetFromTheClock : Obligations.CounterIsOneOffsetFromTheClock := by
  intro s now
  refine ⟨s.counter_eq_ofInt now, ?_, ?_⟩
  · have nonneg : 0 ≤ (s.lrv.toNat + now - s.base) % 2 ^ 32 := Int.emod_nonneg _ (by decide)
    rw [State.counter_eq_ofInt, BitVec.toNat_ofInt]
    exact Int.toNat_of_nonneg nonneg
  · calc s.counter now = s.counter (0 + now) := by rw [Int.zero_add]
      _ = s.counter 0 + BitVec.ofInt 32 now := s.counter_add 0 now
      _ = s.lrv + BitVec.ofInt 32 (-s.base) + BitVec.ofInt 32 now := by rw [State.counter, Int.zero_sub]

/-- Settles O19. -/
theorem counterAdvancesAndWraps : Obligations.CounterAdvancesAndWraps := by
  intro s now
  have advance : s.counter (now + 1) = s.counter now + 1 := s.counter_add now 1
  refine ⟨advance, fun last => ?_, ?_⟩
  · rw [advance, last]
    decide
  · have turn : BitVec.ofInt 32 (2 ^ 32) = 0#32 := by decide
    rw [s.counter_add, turn, BitVec.add_zero]

/-- Settles O20. -/
theorem loadSeedsTheCounter : Obligations.LoadSeedsTheCounter := by
  intro v s
  have loaded (now : Int) : ((s.putLr v s.now).finishWrite).counter now = v + BitVec.ofInt 32 (now - s.now) :=
    State.counter_of_loaded rfl rfl now
  refine ⟨_, exec_wrLr v s, ?_, loaded, ?_⟩
  · rw [loaded, Int.sub_self]
    exact BitVec.add_zero v
  · rintro rfl now
    rw [loaded, ← State.counter_add, add_sub_cancel]

end Sys2Proof.Proofs
end

section
/-! PROOFS about `40_adapter.md` section 3 and `43_id_regs.md`: the terms of the spec's listing are the model's own values, so the
listing's step and the model's agree register by register. -/

namespace Sys2Proof.Machine

/-- A widened byte laid out: the byte in the lowest place, zeros above (R146). -/
@[simp] theorem bytesLe_zextByte (b : Byte) : bytesLe (zextByte b) = [b, 0, 0, 0] := by
  have low : le32 [b, 0, 0, 0] = zextByte b := BitVec.add_zero _
  rw [← low, bytesLe_le32_four]

/-- R130 to R137: the read of `IDk` drives the byte, widened. -/
theorem exec_decodeRead_id (off : Nat) (k : Fin 8) (s : State) :
    exec (decodeRead off (some (.id k))) s = .next (s.driveData (zextByte s.idReg[k])) :=
  match k with | 0 | 1 | 2 | 3 | 4 | 5 | 6 | 7 => rfl

/-- R138 to R145: the write of `IDk` only counts. -/
theorem exec_decodeWrite_id (off : Nat) (v : Word) (k : Fin 8) (s : State) :
    exec (decodeWrite off v (some (.id k))) s = .next (s.raiseInvalid .write .readOnly) :=
  match k with | 0 | 1 | 2 | 3 | 4 | 5 | 6 | 7 => rfl

end Sys2Proof.Machine

namespace Sys2Proof.Listing

open Machine

theorem counter_eq (s : State) (now : Int) : counter s now = s.counter now := (s.counter_eq_ofInt now).symm

theorem raw_eq (m : Word → Word → Bool) (s : State) (now : Int) : raw m s now = s.risv m now := by
  rw [raw, counter_eq, State.risv, State.matched, zextBit]

/-- Division by `256^k` and reduction modulo 256 select byte `k`. -/
theorem spread_eq (v : Word) : spread v = bytesLe v := by
  have byte (start : Nat) : BitVec.ofNat 8 (v.toNat / 2 ^ start) = v.extractLsb' start 8 := by
    apply BitVec.eq_of_toNat_eq
    rw [BitVec.toNat_ofNat, toNat_extractLsb'_byte]
  have lowest : BitVec.ofNat 8 v.toNat = v.extractLsb' 0 8 := (Nat.div_one v.toNat) ▸ byte 0
  rw [bytesLe, ← lowest, ← byte 8, ← byte 16, ← byte 24]
  rfl

theorem payload_eq {data : List Byte} (h : data.length = accessLen) : payload data = le32 data := by
  obtain ⟨b0, b1, b2, b3, rfl⟩ := List.length_eq_four.1 h
  exact (le32_eq_payload b0 b1 b2 b3).symm

theorem register_regOffset (r : Reg) : register (regOffset r) = some r := by
  cases r with
  | id k => revert k; decide
  | _ => rfl

/-- The arithmetic offset map is the table of fifteen offsets (R64). -/
theorem register_eq_lookup (off : Nat) : register off = lookup off := by
  cases h : lookup off with
  | none =>
    have ranges := (lookup_eq_none_iff_ranges off).1 h
    unfold register
    repeat rw [if_neg (by omega)]
    exact dif_neg (by omega)
  | some r =>
    obtain rfl := lookup_eq_some.1 h
    exact register_regOffset r

/-- The listing's step of a delivery, with what acceptance and the result do to the model's own fields. -/
def answer (s : State) (d : Delivery) (rest : List Delivery) : State :=
  { (step Config.matchCond s d.txn d.now).1 with
    inbox := rest
    now := d.now
    result := (step Config.matchCond s d.txn d.now).2
    buf := bufferAfter d.txn (step Config.matchCond s d.txn d.now).2 }

/-- A read by the listing is a read by the model: the width, then the register, whose value is the model's own. -/
theorem exec_read_eq_answer (s : State) (now : Int) (off : Nat) (out : List Byte) (rest : List Delivery) :
    exec (decode (.read off out)) (s.accept ⟨now, .read off out⟩ rest) =
      .next (answer s ⟨now, .read off out⟩ rest) := by
  by_cases h : out.length = accessLen
  · have width : ¬ out.length ≠ 4 := not_not_intro h
    rw [decode_read_of_length_eq off h]
    simp only [answer, step, if_neg width, register_eq_lookup]
    cases lookup off with
    | none => rfl
    | some r =>
      cases r
      case id k =>
        rw [exec_decodeRead_id]
        simp only [registerRead, spread_eq, BitVec.ofNat_toNat]
        rfl
      all_goals
        simp only [registerRead, spread_eq, counter_eq, raw_eq]
        rfl
  · have width : out.length ≠ 4 := h
    rw [decode_read_of_length_ne off h, exec_of_invalid_read rfl rfl]
    simp only [answer, step, if_pos width]
    rfl

/-- A write by the listing is a write by the model. -/
theorem exec_write_eq_answer (s : State) (now : Int) (off : Nat) (data : List Byte) (rest : List Delivery) :
    exec (decode (.write off data)) (s.accept ⟨now, .write off data⟩ rest) =
      .next (answer s ⟨now, .write off data⟩ rest) := by
  by_cases h : data.length = accessLen
  · have width : ¬ data.length ≠ 4 := not_not_intro h
    rw [decode_write_of_length_eq off h]
    simp only [answer, step, if_neg width, register_eq_lookup, payload_eq h]
    cases lookup off with
    | none => rfl
    | some r =>
      cases r
      case id k =>
        rw [exec_decodeWrite_id]
        rfl
      all_goals
        simp only [registerWrite, raw_eq, ← getLsbD_zero_eq_parity]
        rfl
  · have width : data.length ≠ 4 := h
    rw [decode_write_of_length_ne off h, exec_of_invalid_write rfl rfl]
    simp only [answer, step, if_pos width]
    rfl

end Sys2Proof.Listing

namespace Sys2Proof.Proofs

open Sys2Proof.Machine

/-- Settles O11: a step runs what the accepted transaction decodes to, and a read and a write are the listing's. -/
theorem stepIsTheSpecsListing : Obligations.StepIsTheSpecsListing := by
  rintro s ⟨now, txn⟩ rest h
  rw [step_cons h]
  cases txn with
  | read off out => exact Listing.exec_read_eq_answer s now off out rest
  | write off data => exact Listing.exec_write_eq_answer s now off data rest

/-- Settles O41: the eight rows are one read of `IDk`. -/
theorem idReadsReturnTheConstantByte : Obligations.IdReadsReturnTheConstantByte := by
  intro s
  have row (k : Fin 8) :
      exec (decodeRead 0 (some (.id k))) s = .next
        { s with buf := [s.idReg[k], 0, 0, 0], result := some (.data [s.idReg[k], 0, 0, 0]) } ∧
      (decodeRead 0 (some (.id k))).key = some (regOffset (.id k)) := by
    rw [exec_decodeRead_id, State.driveData, bytesLe_zextByte, Instr.key, encode_decodeRead, keyOf_readOf]
    exact ⟨rfl, rfl⟩
  simp only [List.forall_mem_cons]
  exact ⟨row 0, row 1, row 2, row 3, row 4, row 5, row 6, row 7, nofun⟩

/-- Settles O42: the eight rows are one write of `IDk`. -/
theorem idWritesOnlyCount : Obligations.IdWritesOnlyCount := by
  intro s v
  have row (k : Fin 8) :
      exec (decodeWrite 0 v (some (.id k))) s = .next
        { s with missWr := s.missWr + 1, err := s.err + 1, result := none } ∧
      (decodeWrite 0 v (some (.id k))).cause = some .readOnly ∧
      (decodeWrite 0 v (some (.id k))).key = some (windowSize + regOffset (.id k)) := by
    rw [exec_decodeWrite_id, cause_decodeWrite_id, Instr.key, encode_decodeWrite, keyOf_writeOf]
    exact ⟨rfl, rfl, rfl⟩
  simp only [List.forall_mem_cons]
  exact ⟨row 0, row 1, row 2, row 3, row 4, row 5, row 6, row 7, nofun⟩

end Sys2Proof.Proofs
end

section
/-! PROOFS about `42_interrupt_regs.md`: the status is computed from the counter and `MR`, which no operation on the interrupt
registers writes; the line is raised by `WR.IMSC` alone. -/

namespace Sys2Proof.Machine

/-- R110. -/
theorem exec_rdImsc (s : State) : exec .rdImsc s = .next (s.driveData s.imsc) := rfl

/-- R112. -/
theorem exec_rdRis (s : State) : exec .rdRis s = .next (s.driveData (s.risv Config.matchCond s.now)) := rfl

/-- R117. -/
theorem exec_wrIcr (v : Word) (s : State) : exec (.wrIcr v) s = .next (s.putIrq false).finishWrite := rfl

/-- A write of the mask leaves the match condition as it was, at every clock reading. -/
theorem State.writeImsc_matched (m : Word → Word → Bool) (v : Word) (now : Int) (s : State) (now' : Int) :
    (s.writeImsc m v now).matched m now' = s.matched m now' :=
  State.matched_congr rfl rfl rfl m now'

/-- With bit 0 of the mask clear the masked status is 0 (R21). -/
theorem State.misv_eq_zero_of_clear {s : State} (h : s.imsc.getLsbD 0 = false) (m : Word → Word → Bool) (now : Int) :
    s.misv m now = 0 := by
  rw [State.misv_eq_zextBit, h, Bool.and_false]
  rfl

/-- A step that leaves the line other than it was served the write of `IMSC` or `ICR` that moved it (R119). -/
theorem step_irq {s t : State} (h : step s = .next t) (hne : t.irq ≠ s.irq) :
    ∃ d rest, s.inbox = d :: rest ∧
      ((∃ v, decode d.txn = .wrImsc v ∧ t.irq = s.lineLevel Config.matchCond v d.now) ∨
        (∃ v, decode d.txn = .wrIcr v ∧ t.irq = false)) := by
  obtain ⟨-, rfl⟩ | ⟨d, rest, hin, hex⟩ := step_cases h
  · exact absurd rfl hne
  · obtain ⟨v, hi, -, irq⟩ | ⟨-, ⟨v, hi, irq⟩ | irq⟩ := exec_imsc_irq hex
    · exact ⟨d, rest, hin, .inl ⟨v, hi, irq⟩⟩
    · exact ⟨d, rest, hin, .inr ⟨v, hi, irq⟩⟩
    · exact absurd irq hne

end Sys2Proof.Machine

namespace Sys2Proof.Proofs

open Sys2Proof.Machine

/-- Settles O23. -/
theorem readImscReturnsTheMask : Obligations.ReadImscReturnsTheMask :=
  ⟨exec_rdImsc, keyOf_readOf .imsc, rfl⟩

/-- Settles O25: the match condition, widened to a word, is laid out in the lowest byte. -/
theorem readRisReturnsTheMatchCondition : Obligations.ReadRisReturnsTheMatchCondition := by
  intro s
  rw [exec_rdRis, State.driveData, State.risv, bytesLe_zextBit, State.matched]

/-- Settles O27. -/
theorem writeIcrDeassertsTheLine : Obligations.WriteIcrDeassertsTheLine :=
  ⟨exec_wrIcr, keyOf_writeOf .icr⟩

/-- Settles O29: the counter and `MR` are all that the raw status is computed from. -/
theorem rawStatusIsTheMatchCondition : Obligations.RawStatusIsTheMatchCondition := by
  intro m s now
  refine ⟨rfl, fun t now' hcounter hmr => ?_⟩
  rw [State.risv, State.matched, hcounter, hmr, State.risv, State.matched]

/-- Settles O30: the line and the masked status are the same bit, which a clear bit 0 of the mask holds at 0. -/
theorem writeImscMakesTheLineAgreeWithMis : Obligations.WriteImscMakesTheLineAgreeWithMis := by
  intro m v now s
  refine ⟨?_, fun clear => ⟨?_, fun now' => ?_⟩⟩
  · rw [State.misv_eq_zextBit, zextBit_bne_zero, State.writeImsc_matched, State.writeImsc_irq, State.lineLevel_eq_and,
      State.writeImsc_imsc]
  · rw [State.writeImsc_irq, State.lineLevel_eq_and, clear, Bool.and_false]
  · exact State.misv_eq_zero_of_clear clear m now'

/-- Settles O31: `WR.ICR` writes no component the status is computed from. -/
theorem clearLeavesTheStatusAndTheLineCanRise : Obligations.ClearLeavesTheStatusAndTheLineCanRise := by
  intro m v w s
  refine ⟨_, exec_wrIcr v s, rfl, fun now => ⟨?_, ?_⟩, fun now holds bit => ?_⟩
  · exact State.risv_congr rfl rfl rfl m now
  · exact State.misv_congr rfl rfl rfl rfl m now
  · have still : (s.putIrq false).finishWrite.matched m now = true := holds
    rw [State.writeImsc_irq, State.lineLevel_eq_and, still, bit, Bool.and_true]

/-- Settles O32. -/
theorem lineMovesOnlyAtImscAndIcrWrites : Obligations.LineMovesOnlyAtImscAndIcrWrites :=
  ⟨fun _ _ h hne => step_irq h hne, rfl⟩

/-- Settles O33: a step keeps the line low unless it serves a `WR.IMSC`, and a run is steps. -/
theorem lineStaysLowWithoutAMaskWrite : Obligations.LineStaysLowWithoutAMaskWrite := by
  intro k s t low others h
  refine run_keeps (P := fun s => s.irq = false) (admitted := fun d => ∀ v, decode d.txn ≠ .wrImsc v) ?_ k low others h
  intro s t low other hstep
  by_contra high
  obtain ⟨d, rest, hin, ⟨v, hi, -⟩ | ⟨v, -, irq⟩⟩ := step_irq hstep (low ▸ high)
  · exact other d rest hin v hi
  · exact high irq

end Sys2Proof.Proofs
end

section
/-! PROOFS about reads and invalid accesses as steps (`20_memory.md` section 2, `40_adapter.md`), and about what an operation does
not depend on: the caller's buffer, the enable bit, the clock, the counters. -/

namespace Sys2Proof.Machine

/-- A valid read overwrites the caller's buffer, so it answers the same whatever the buffer held (R86). -/
theorem exec_valid_read_any_buffer {i : Instr} (hr : i.isWrite = false) (hc : i.cause = none) (s : State) (b : List Byte) :
    exec i { s with buf := b } = exec i s := by
  cases i
  case rdBadlen | rdUnmapped | rdIcr => cases hc
  case rdLr | rdMr | rdRtccr | rdImsc | rdRis | rdMis => rfl
  case rdId0 | rdId1 | rdId2 | rdId3 | rdId4 | rdId5 | rdId6 | rdId7 => rfl
  all_goals cases hr

/-- No valid operation reads a counter of the Event Sink (R50 (d)). -/
theorem exec_valid_any_counters {i : Instr} {s t : State} (hc : i.cause = none) (h : exec i s = .next t) (e r w : Nat) :
    exec i { s with err := e, missRd := r, missWr := w } = .next { t with err := e, missRd := r, missWr := w } := by
  cases i
  case rdBadlen | wrBadlen | rdUnmapped | wrUnmapped | rdIcr | wrRis | wrMis => cases hc
  case wrId0 | wrId1 | wrId2 | wrId3 | wrId4 | wrId5 | wrId6 | wrId7 => cases hc
  all_goals
    cases h
    rfl

end Sys2Proof.Machine

namespace Sys2Proof

/-- What a read decodes to depends on the length of its buffer and not on its bytes (R60). -/
theorem decode_read_congr (off : Nat) {out out' : List Byte} (h : out.length = out'.length) :
    decode (.read off out) = decode (.read off out') := by
  rw [decode, decode, h]

end Sys2Proof

namespace Sys2Proof.Proofs

open Sys2Proof.Machine

/-- Settles O36: the width is wrong before anything else is looked at. -/
theorem wrongWidthsOnlyCount : Obligations.WrongWidthsOnlyCount := by
  intro s off bytes h
  rw [decode_read_of_length_ne off h, decode_write_of_length_ne off h]
  exact ⟨rfl, exec_of_invalid_read rfl rfl s, rfl, exec_of_invalid_write rfl rfl s⟩

/-- Settles O39: a read with a cause only counts, and one without drives data. -/
theorem readsChangeNoComponentButTheCounters : Obligations.ReadsChangeNoComponentButTheCounters := by
  intro s now off out rest h
  have isRead : (decode (.read off out)).isWrite = false := decode_isWrite _
  rw [step_cons h]
  cases hc : (decode (.read off out)).cause with
  | none =>
    obtain ⟨t, ht⟩ := exec_completes (decode (.read off out)) (s.accept ⟨now, .read off out⟩ rest)
    obtain ⟨v, rfl⟩ := exec_valid_read isRead hc ht
    exact ⟨_, ht, rfl, fun _ => ⟨rfl, rfl⟩, fun invalid => absurd rfl invalid⟩
  | some c =>
    exact ⟨_, exec_of_invalid_read isRead hc _, rfl, nofun, fun _ => ⟨rfl, rfl, rfl, rfl⟩⟩

/-- Settles O40: the two reads are one operation, which keeps the buffer when it is invalid and overwrites it when it is valid. -/
theorem callersBufferReachesNothing : Obligations.CallersBufferReachesNothing := by
  intro s now off out out' hlen
  have isRead : (decode (.read off out')).isWrite = false := decode_isWrite _
  rw [step_cons rfl, step_cons rfl, decode_read_congr off hlen]
  cases hc : (decode (.read off out')).cause with
  | none =>
    obtain ⟨t, ht⟩ := exec_completes (decode (.read off out')) { s with now := now }
    obtain ⟨v, rfl⟩ := exec_valid_read isRead hc ht
    have answers (b : List Byte) := (exec_valid_read_any_buffer isRead hc { s with now := now } b).trans ht
    exact ⟨_, _, answers out, answers out', rfl, nofun, fun _ => rfl⟩
  | some c =>
    exact ⟨_, _, exec_of_invalid_read isRead hc _, exec_of_invalid_read isRead hc _, rfl, fun _ => ⟨rfl, rfl⟩,
      fun data => absurd rfl data⟩

/-- Settles O21: `RD.RTCCR` drives the bit, `WR.RTCCR` adds to it, and no other operation looks at it. -/
theorem enableBitGatesNothing : Obligations.EnableBitGatesNothing := by
  intro i s t b h
  refine ⟨fun other => ?_, ?_⟩
  · cases i
    case rdRtccr => exact absurd rfl other
    case wrRtccr v =>
      cases h
      exact ⟨b || enableBit v, rfl⟩
    all_goals
      cases h
      exact ⟨b, rfl⟩
  · rintro rfl
    cases h
    exact ⟨zextBit b, rfl⟩

/-- Settles O22. -/
theorem onlyFiveOperationsReadTheClock : Obligations.OnlyFiveOperationsReadTheClock := by
  intro i s t now rdLr wrLr rdRis rdMis wrImsc h
  cases i
  case rdLr => exact absurd rfl rdLr
  case wrLr v => exact absurd rfl (wrLr v)
  case rdRis => exact absurd rfl rdRis
  case rdMis => exact absurd rfl rdMis
  case wrImsc v => exact absurd rfl (wrImsc v)
  all_goals
    cases h
    rfl

/-- Settles O54: a valid operation leaves the counters as they are, whatever they hold, and an invalid one adds one. -/
theorem countersOrderNothing : Obligations.CountersOrderNothing := by
  intro i s t e r w h
  cases hc : i.cause with
  | none =>
    obtain ⟨err, missRd, missWr⟩ := exec_counters_of_valid hc h
    exact ⟨e, r, w, exec_valid_any_counters hc h e r w, by rw [err], by rw [missRd], by rw [missWr]⟩
  | some c =>
    cases direction : i.isWrite with
    | false =>
      cases h.symm.trans (exec_of_invalid_read direction hc s)
      exact ⟨e + 1, r + 1, w, exec_of_invalid_read direction hc _, Nat.add_right_comm e 1 _, Nat.add_right_comm r 1 _, rfl⟩
    | true =>
      cases h.symm.trans (exec_of_invalid_write direction hc s)
      exact ⟨e + 1, r, w + 1, exec_of_invalid_write direction hc _, Nat.add_right_comm e 1 _, rfl, Nat.add_right_comm w 1 _⟩

end Sys2Proof.Proofs
end

section
/-! PROOFS about `10_state.md` section 7 (reset), `92_eei_decisions.md` D13 (the line's option), and the runs S1 and S2 of
`95_test_vectors.md`: what is written is kept until the read that reads it back. -/

namespace Sys2Proof.Machine

theorem State.reset_idReg (k : Fin 8) : State.reset.idReg[k] = Config.idByte k :=
  match k with | 0 | 1 | 2 | 3 | 4 | 5 | 6 | 7 => rfl

/-- A write, then any admitted deliveries, then a last one: the last one's step starts from a state that has what the write
established and every admitted step keeps. -/
theorem run_from_write_to_last {P : State → Prop} {admitted : Delivery → Prop}
    (keeps : ∀ s t, P s → (∀ d rest, s.inbox = d :: rest → admitted d) → step s = .next t → P t)
    {s t : State} {first last : Delivery} {mids rest : List Delivery} (hin : s.inbox = first :: (mids ++ last :: rest))
    (hfirst : step s = .next t) (ht : P t) (hmids : ∀ d ∈ mids, admitted d) :
    ∃ u : State, P u ∧ u.inbox = last :: rest ∧ Host.Core.run Sys2Proof.core (mids.length + 2) s = step u := by
  have pending : t.inbox = mids ++ last :: rest := by rw [step_inbox hfirst, hin, List.tail_cons]
  obtain ⟨u, hrun, hdrop⟩ := run_completes mids.length t
  refine ⟨u, ?_, ?_, ?_⟩
  · refine run_keeps keeps mids.length ht (fun d hd => hmids d ?_) hrun
    rwa [pending, List.take_left] at hd
  · rw [hdrop, pending, List.drop_left]
  · exact (run_succ (mids.length + 1) hfirst).trans ((run_add 1 hrun).trans (run_one u))

end Sys2Proof.Machine

namespace Sys2Proof.Proofs

open Sys2Proof.Machine

/-- Settles O44. -/
theorem resetMeetsTheStateInvariant : Obligations.ResetMeetsTheStateInvariant :=
  ⟨rfl, fun _ => rfl, State.reset_idReg⟩

/-- Settles O45: the components by the definition of reset, the derived values from `LRV = 0` and `IMSC = 0`. -/
theorem resetLeavesTheListedValues : Obligations.ResetLeavesTheListedValues := by
  refine ⟨rfl, rfl, rfl, rfl, rfl, rfl, rfl, rfl, rfl, State.reset_idReg, fun now => ?_, fun m now => ?_⟩
  · exact BitVec.zero_add _
  · exact State.misv_eq_zero_of_clear rfl m now

/-- Settles O52: the option asserts the line only where bit 0 of the mask is set. -/
theorem invariantHoldsWithTheLineOption : Obligations.InvariantHoldsWithTheLineOption := by
  intro m s t u hs h option
  have ht : t.Inv := everyStepKeepsTheStateInvariant s t hs h
  obtain rfl | ⟨asserted, rfl⟩ := option
  · exact ht
  · exact ⟨ht.accounts, fun clear => absurd (State.misv_eq_zero_of_clear clear m t.now) asserted, ht.constant⟩

/-- Settles O48: only a `WR.MR` changes `MR`, so the value written is there at the read. -/
theorem matchRegisterReadsBackAcrossARun : Obligations.MatchRegisterReadsBackAcrossARun := by
  intro s v n n' out mids rest hlen hin hmids
  have hfirst : step s = .next ((s.accept ⟨n, .write 0x004 (bytesLe v)⟩ _).putMr v).finishWrite :=
    (step_cons hin).trans (congrArg (exec · _) (decode_writeOf .mr v))
  have keeps (s t : State) (hs : s.mr = v) (other : ∀ d rest, s.inbox = d :: rest → ∀ w, decode d.txn ≠ .wrMr w)
      (h : step s = .next t) : t.mr = v := by
    by_contra changed
    obtain ⟨-, mr, -⟩ := eachRegisterChangesOnlyByItsOwnWrite s t h
    obtain ⟨d, rest, w, hcons, hi, -⟩ := mr (hs ▸ changed)
    exact other d rest hcons w hi
  obtain ⟨u, hu, hlast, hrun⟩ := run_from_write_to_last keeps hin hfirst rfl hmids
  have hread : decode (.read 0x004 out) = .rdMr := decode_read_regOffset .mr hlen
  have reads : step u = .next ((u.accept ⟨n', .read 0x004 out⟩ rest).driveData v) := by
    rw [step_cons hlast, hread, exec_rdMr, State.accept_mr, hu]
  exact ⟨_, hrun.trans reads, rfl, rfl, rfl⟩

/-- Settles O49: only a `WR.LR` changes `LRV` and `BASE`, so the counter at the read is the value loaded plus the seconds since. -/
theorem loadedCounterReadsBackPlusElapsed : Obligations.LoadedCounterReadsBackPlusElapsed := by
  intro s v n n' out mids rest hlen hin hmids
  have hfirst : step s = .next ((s.accept ⟨n, .write 0x000 (bytesLe v)⟩ _).putLr v n).finishWrite :=
    (step_cons hin).trans (congrArg (exec · _) (decode_writeOf .lr v))
  have keeps (s t : State) (hs : s.lrv = v ∧ s.base = n)
      (other : ∀ d rest, s.inbox = d :: rest → ∀ w, decode d.txn ≠ .wrLr w)
      (h : step s = .next t) : t.lrv = v ∧ t.base = n := by
    obtain ⟨hlrv, hbase⟩ := hs
    by_contra changed
    obtain ⟨lr, -⟩ := eachRegisterChangesOnlyByItsOwnWrite s t h
    rw [not_and_or, ← hlrv, ← hbase] at changed
    obtain ⟨d, rest, w, hcons, hi, -⟩ := lr changed
    exact other d rest hcons w hi
  obtain ⟨u, ⟨hlrv, hbase⟩, hlast, hrun⟩ := run_from_write_to_last keeps hin hfirst ⟨rfl, rfl⟩ hmids
  have hread : decode (.read 0x000 out) = .rdLr := decode_read_regOffset .lr hlen
  have counter : (u.accept ⟨n', .read 0x000 out⟩ rest).counter n' = v + BitVec.ofInt 32 (n' - n) :=
    State.counter_of_loaded hlrv hbase n'
  have reads : step u = .next ((u.accept ⟨n', .read 0x000 out⟩ rest).driveData (v + BitVec.ofInt 32 (n' - n))) := by
    rw [step_cons hlast, hread, exec_rdLr, State.accept_now, counter]
  exact ⟨_, hrun.trans reads, rfl, rfl⟩

/-- Settles O50: no pending reading lies before the load, so the seconds since are a natural number. -/
theorem monotoneClockCountsUpFromTheLoad : Obligations.MonotoneClockCountsUpFromTheLoad := by
  intro s d rest v monotone hin hi
  rw [State.ClockMonotone, hin, List.map_cons, List.pairwise_cons] at monotone
  obtain ⟨afterLoad, monotone⟩ := monotone
  refine ⟨((s.accept d rest).putLr v d.now).finishWrite, ?_, monotone, fun d' hd' => ?_⟩
  · rw [step_cons hin, hi]
    rfl
  · have later : d.now ≤ d'.now := afterLoad d'.now (List.mem_map_of_mem hd')
    have elapsed : BitVec.ofInt 32 (d'.now - d.now) = BitVec.ofNat 32 (d'.now - d.now).toNat := by
      rw [← BitVec.ofInt_natCast, Int.toNat_of_nonneg (Int.sub_nonneg_of_le later)]
    have counter : ((s.accept d rest).putLr v d.now).finishWrite.counter d'.now =
        v + BitVec.ofInt 32 (d'.now - d.now) :=
      State.counter_of_loaded rfl rfl d'.now
    refine ⟨later, ?_⟩
    rw [counter, elapsed, BitVec.toNat_add, BitVec.toNat_ofNat, Nat.add_mod_mod]

end Sys2Proof.Proofs
end

section
/-! PROOFS about the telemetry reader (`20_memory.md` section 4, D21): no step lowers a counter, so no reading is lower than an
earlier one, however the counters of a step in progress are interleaved. -/

namespace Sys2Proof.Machine

theorem step_telemetry_le {s t : State} (h : step s = .next t) : Telemetry.Le s.telemetry t.telemetry := by
  obtain ⟨r, w, -, missRd, missWr, err⟩ := step_counters h
  refine ⟨?_, ?_, ?_⟩ <;> simp only [State.telemetry] <;> omega

/-- The readings during one step never decrease and lie between the values before and after. -/
theorem Telemetry.Readings.ordered {a b : Telemetry} (hab : Telemetry.Le a b) {l : List Telemetry}
    (h : Telemetry.Readings a b l) :
    l.Pairwise Telemetry.Le ∧ ∀ r ∈ l, Telemetry.Le a r ∧ Telemetry.Le r b := by
  induction l generalizing a with
  | nil => exact ⟨List.Pairwise.nil, nofun⟩
  | cons seen later ih =>
    obtain ⟨mid, rest⟩ := h
    obtain ⟨le_seen, seen_le⟩ := mid.between hab
    obtain ⟨ordered, bounds⟩ := ih seen_le rest
    refine ⟨List.pairwise_cons.2 ⟨fun r hr => (bounds r hr).1, ordered⟩, ?_⟩
    rw [List.forall_mem_cons]
    exact ⟨⟨le_seen, seen_le⟩, fun r hr => ⟨le_seen.trans (bounds r hr).1, (bounds r hr).2⟩⟩

/-- A run lowers no counter, its readings never decrease, and they lie between its first and its last values. -/
theorem State.Observed.ordered {s u : State} {l : List Telemetry} (h : State.Observed s l u) :
    Telemetry.Le s.telemetry u.telemetry ∧ l.Pairwise Telemetry.Le ∧
      ∀ r ∈ l, Telemetry.Le s.telemetry r ∧ Telemetry.Le r u.telemetry := by
  induction h with
  | rest s n =>
    refine ⟨Telemetry.Le.refl _, List.pairwise_replicate.2 (.inr (Telemetry.Le.refl _)), fun r hr => ?_⟩
    obtain rfl := List.eq_of_mem_replicate hr
    exact ⟨Telemetry.Le.refl _, Telemetry.Le.refl _⟩
  | @serve s t u during later hstep hd _ ih =>
    have first : Telemetry.Le s.telemetry t.telemetry := step_telemetry_le hstep
    obtain ⟨duringOrdered, duringBounds⟩ := hd.ordered first
    obtain ⟨run, laterOrdered, laterBounds⟩ := ih
    refine ⟨first.trans run, ?_, ?_⟩
    · exact List.pairwise_append.2 ⟨duringOrdered, laterOrdered,
        fun r hr r' hr' => (duringBounds r hr).2.trans (laterBounds r' hr').1⟩
    · rw [List.forall_mem_append]
      exact ⟨fun r hr => ⟨(duringBounds r hr).1, (duringBounds r hr).2.trans run⟩,
        fun r hr => ⟨first.trans (laterBounds r hr).1, (laterBounds r hr).2⟩⟩

/-- One half-updated view of a step, then the updated one, may be read during it. -/
theorem State.Observed.half_then_full {s t : State} (h : step s = .next t) {half : Telemetry}
    (hhalf : Telemetry.MidStep s.telemetry t.telemetry half) : State.Observed s [half, t.telemetry] t :=
  .serve (during := [half, t.telemetry]) h ⟨hhalf, Telemetry.MidStep.finish _ _, trivial⟩ (.rest t 0)

end Sys2Proof.Machine

namespace Sys2Proof.Proofs

open Sys2Proof.Machine

/-- Settles O51: the reading lies between the values before and after, of which at most one direction counter and `ERR` differ,
by one. -/
theorem telemetryDuringAStepIsBounded : Obligations.TelemetryDuringAStepIsBounded := by
  intro s t seen h mid
  obtain ⟨above, below⟩ := mid.between (step_telemetry_le h)
  refine ⟨⟨above.err, below.err⟩, ⟨above.missRd, below.missRd⟩, ⟨above.missWr, below.missWr⟩, fun accounts => ?_⟩
  obtain ⟨r, w, one, missRd, missWr, err⟩ := step_counters h
  obtain ⟨errLe, missRdLe, missWrLe⟩ := above
  obtain ⟨leErr, leMissRd, leMissWr⟩ := below
  simp only [State.telemetry] at errLe missRdLe missWrLe leErr leMissRd leMissWr
  omega

/-- Settles O53. -/
theorem telemetryReadingsNeverDecrease : Obligations.TelemetryReadingsNeverDecrease := by
  refine ⟨fun s u readings h => h.ordered.2, fun s t h => ⟨?_, ?_⟩⟩
  · exact State.Observed.half_then_full h ⟨.inr rfl, .inl rfl, .inl rfl⟩
  · exact State.Observed.half_then_full h ⟨.inl rfl, .inr rfl, .inr rfl⟩

end Sys2Proof.Proofs
end
